-- ==== Sys2Proof/Word.lean ====
section
/-! DEFINITION. The two word types of the command port (R80): the 32-bit word of operands, registers and
response data, and the 8-bit command word. -/

namespace Sys2Proof

/-- A 32-bit word: an operand, a data word, a duration, a timestamp or a packet (R7, R80). It is always
an unsigned value (R9). -/
abbrev Word := BitVec 32

/-- The 8-bit command word `cmd[7:0]` (R80). -/
abbrev CommandWord := BitVec 8

end Sys2Proof
end

