-- ==== Sys2Proof/Syntax.lean ====
section
/-! DEFINITION. The operations of the block, one constructor per row of the opcode table (R83), and the
transaction that carries one (R80). -/

namespace Sys2Proof

/-- One operation with the operands it uses; an operand the table marks ignored is not part of it (R83,
R84). -/
inductive Instr where
  /-- NOP (R210). -/
  | nop
  /-- CFG.WRITE: the 4-bit index of the command word and A = value (R82, R85, R111). -/
  | cfgWrite (idx : BitVec 4) (value : Word)
  /-- CFG.COMMIT (R112). -/
  | cfgCommit
  /-- ARM: A = packet (R181). -/
  | arm (packet : Word)
  /-- TICK: A = now (R182). -/
  | tick (now : Word)
  /-- QUERY: A = selector (R211). -/
  | query (selector : Word)
  /-- CLASSIFY: A = measured duration (R137). -/
  | classify (measured : Word)
  /-- RX.START: A = timeout (0 = none), B = now (R152). -/
  | rxStart (timeout now : Word)
  /-- RX.CHECK: A = now (R153). -/
  | rxCheck (now : Word)
  /-- RX.PULSE: A = measured duration (0 = the measurement timed out), B = now (R156). -/
  | rxPulse (measured now : Word)
deriving DecidableEq, Repr

/-- What an agent puts on the command port: the command word and the two operand words, presented
together (R80). -/
structure Transaction where
  /-- `cmd[7:0]`. -/
  cmd : CommandWord
  /-- `A[31:0]`. -/
  a : Word
  /-- `B[31:0]`. -/
  b : Word
deriving DecidableEq, Repr

/-- Why a command word spells no operation (R86). -/
inductive IllegalCommand where
  /-- op 0xA to 0xF, with any z. -/
  | reservedOpcode (op : BitVec 4)
  /-- A Format N opcode whose z field, bits [7:4], is not 0000. -/
  | nonzeroZ (op z : BitVec 4)
  /-- op 0x1 with idx 7 to 15. -/
  | unmappedIndex (idx : BitVec 4)
deriving DecidableEq, Repr

/-- The outcome of decoding a command word (R87). -/
inductive Decoded where
  /-- The word is one of the 16 legal ones. -/
  | legal (i : Instr)
  /-- The word is ILLEGAL, for the reason named. -/
  | illegal (why : IllegalCommand)
deriving DecidableEq, Repr

end Sys2Proof
end

