-- ==== Sys2Proof/WellFormed.lean ====
section
/-! DEFINITION. The one check an operation's operands must pass: CFG.WRITE's index names a configuration
register (R85). Every other operand is a whole 32-bit word, and every value of it is legal (R84). -/

namespace Sys2Proof

/-- The indices that name a configuration register are 0 to 6 (R85). -/
def mappedIndex (idx : BitVec 4) : Bool := decide (idx.toNat ≤ 6)

/-- The operation is one that some legal command word spells (R86). -/
def Instr.wellFormed : Instr → Bool
  | .nop => true
  | .cfgWrite idx _ => mappedIndex idx
  | .cfgCommit => true
  | .arm _ => true
  | .tick _ => true
  | .query _ => true
  | .classify _ => true
  | .rxStart _ _ => true
  | .rxCheck _ => true
  | .rxPulse _ _ => true

end Sys2Proof
end

