-- ==== Sys2Proof/Decode.lean ====
section
/-! DEFINITION. The command decoder (R81 to R87), total on every transaction and rejecting by name, the
encoder written from the same table, and the reading of a word numbered as the opcode table numbers it. -/

namespace Sys2Proof

/-- The op field, `cmd[3:0]` (R81, R82). -/
def opField (cmd : CommandWord) : BitVec 4 := cmd.extractLsb' 0 4

/-- The field of bits [7:4]: z of Format N, idx of Format I (R81, R82). -/
def highField (cmd : CommandWord) : BitVec 4 := cmd.extractLsb' 4 4

/-- A Format N word spells its operation only when z is 0000 (R81, R86). -/
def decodeFormatN (cmd : CommandWord) (i : Instr) : Decoded :=
  if highField cmd = 0 then .legal i else .illegal (.nonzeroZ (opField cmd) (highField cmd))

/-- A Format I word spells CFG.WRITE only when its index names a register (R82, R85, R86). -/
def decodeFormatI (cmd : CommandWord) (value : Word) : Decoded :=
  if mappedIndex (highField cmd) then .legal (.cfgWrite (highField cmd) value)
  else .illegal (.unmappedIndex (highField cmd))

/-- Decoding (R87): a total function in which the operand words play no part but to fill the operands of
the operation that the command word spells. -/
def decode (t : Transaction) : Decoded :=
  match (opField t.cmd).toNat with
  | 0x0 => decodeFormatN t.cmd .nop
  | 0x1 => decodeFormatI t.cmd t.a
  | 0x2 => decodeFormatN t.cmd .cfgCommit
  | 0x3 => decodeFormatN t.cmd (.arm t.a)
  | 0x4 => decodeFormatN t.cmd (.tick t.a)
  | 0x5 => decodeFormatN t.cmd (.query t.a)
  | 0x6 => decodeFormatN t.cmd (.classify t.a)
  | 0x7 => decodeFormatN t.cmd (.rxStart t.a t.b)
  | 0x8 => decodeFormatN t.cmd (.rxCheck t.a)
  | 0x9 => decodeFormatN t.cmd (.rxPulse t.a t.b)
  | _ => .illegal (.reservedOpcode (opField t.cmd))

/-- The opcode of an operation (R83). -/
def Instr.opcode : Instr → BitVec 4
  | .nop => 0x0
  | .cfgWrite _ _ => 0x1
  | .cfgCommit => 0x2
  | .arm _ => 0x3
  | .tick _ => 0x4
  | .query _ => 0x5
  | .classify _ => 0x6
  | .rxStart _ _ => 0x7
  | .rxCheck _ => 0x8
  | .rxPulse _ _ => 0x9

/-- Bits [7:4] of an operation's command word: the index of CFG.WRITE, else 0000 (R81, R82). -/
def Instr.highBits : Instr → BitVec 4
  | .nop => 0
  | .cfgWrite idx _ => idx
  | .cfgCommit => 0
  | .arm _ => 0
  | .tick _ => 0
  | .query _ => 0
  | .classify _ => 0
  | .rxStart _ _ => 0
  | .rxCheck _ => 0
  | .rxPulse _ _ => 0

/-- Operand word A of an operation, 0 where the operation ignores it (R83, R92). -/
def Instr.operandA : Instr → Word
  | .nop => 0
  | .cfgWrite _ value => value
  | .cfgCommit => 0
  | .arm packet => packet
  | .tick now => now
  | .query selector => selector
  | .classify measured => measured
  | .rxStart timeout _ => timeout
  | .rxCheck now => now
  | .rxPulse measured _ => measured

/-- Operand word B of an operation, 0 where the operation ignores it (R83, R92). -/
def Instr.operandB : Instr → Word
  | .nop => 0
  | .cfgWrite _ _ => 0
  | .cfgCommit => 0
  | .arm _ => 0
  | .tick _ => 0
  | .query _ => 0
  | .classify _ => 0
  | .rxStart _ now => now
  | .rxCheck _ => 0
  | .rxPulse _ now => now

/-- The transaction of an operation (R81 to R83); ignored operands are sent as 0 (R92). -/
def encode (i : Instr) : Transaction := ⟨i.highBits ++ i.opcode, i.operandA, i.operandB⟩

/-- The 16 legal command words (R86). -/
def legalCommandWords : List CommandWord :=
  [0x00, 0x02, 0x03, 0x04, 0x05, 0x06, 0x07, 0x08, 0x09,
   0x01, 0x11, 0x21, 0x31, 0x41, 0x51, 0x61]

/-- The mnemonic of an operation (R83). -/
def Instr.mnemonic : Instr → String
  | .nop => "NOP"
  | .cfgWrite _ _ => "CFG.WRITE"
  | .cfgCommit => "CFG.COMMIT"
  | .arm _ => "ARM"
  | .tick _ => "TICK"
  | .query _ => "QUERY"
  | .classify _ => "CLASSIFY"
  | .rxStart _ _ => "RX.START"
  | .rxCheck _ => "RX.CHECK"
  | .rxPulse _ _ => "RX.PULSE"

/-- The transaction whose bits are `w`, numbered as the opcode table numbers them: the command word is
bits 7..0, A is bits 39..8 and B is bits 71..40, and every bit at and above `nbits` is 0 (log entry 12). -/
def transactionOfBits (nbits w : Nat) : Transaction :=
  let v := w % 2 ^ nbits
  ⟨BitVec.ofNat 8 v, BitVec.ofNat 32 (v / 2 ^ 8), BitVec.ofNat 32 (v / 2 ^ 40)⟩

/-- The instruction the decoder reads from the word `w` of `nbits` bits, none where it is ILLEGAL. -/
def decodeTableWord (nbits w : Nat) : Option Instr :=
  match decode (transactionOfBits nbits w) with
  | .legal i => some i
  | .illegal _ => none

end Sys2Proof
end

