-- ==== Sys2Proof/Config.lean ====
section
/-! DEFINITION. What the spec leaves to an implementation or to the environment: the OPEN parameters of R7,
and the free arbitration choice of R68. Every one is an opaque constant, so that a proof holds for every
value of it. -/

namespace Sys2Proof.Config

/-- CHECKSUM_VALID: the codec's predicate, a total function of the 32-bit value of RX_PACKET about which
the block assumes nothing else (R7, R154, D32; log entry 6). -/
opaque checksumValid : Word → Bool

/-- PULSE_MAX_WAIT: the longest wait of one pulse measurement, driven out as `max_wait` and never checked
by the block (R7, R42, R162; log entry 7). -/
opaque pulseMaxWait : Word

/-- TICK_PERIOD: the spacing of TICK operations. No operation reads it; it is a duty of the tick source
(R7, R234, R254; log entry 7). -/
opaque tickPeriod : Word

/-- TIME_UNIT: the length of the unit of every duration and timestamp, on some physical scale that the
spec does not give. No rule depends on it (R7, I8; log entry 7). -/
opaque timeUnit : Nat

/-- The free order of simultaneous operations (R68, D23, I10): whether the `n`th time that both agents
present an input at once the tick source is served first (log entry 2). -/
opaque tickServedFirst : Nat → Bool

/-- PACKET_WIDTH, the width of a RawPacket register: the largest legal `packet_bits` (R7, R114). -/
abbrev packetWidth : Nat := 32

end Sys2Proof.Config
end

