-- ==== Sys2Proof/Machine/State.lean ====
section
/-! DEFINITION. The machine's state: the 22 registers of R20, each at the width R20 gives it, and beside them
the model's own fields for what the two agents present and for the response port. All of it is plain data. -/

namespace Sys2Proof.Machine

/-- The agents that issue operations (R6, R68). -/
inductive Agent where
  /-- The host, which by its duty issues every operation except TICK (R233). -/
  | host
  /-- The tick source, which by its duty issues only TICK (R233). -/
  | tickSource
deriving DecidableEq, Repr

/-- What an agent presents to the block. -/
inductive Input where
  /-- One operation on the command port (R80). -/
  | transaction (t : Transaction)
  /-- The reset input, which is separate from the command port (R250). -/
  | reset
deriving DecidableEq, Repr

/-- The status codes a response can carry (R88); codes 8 to 15 are never returned. -/
inductive Status where
  | ok
  | rearmRejected
  | invalidConfiguration
  | configLocked
  | rxContinue
  | rxDoneOk
  | rxTimeout
  | fault
deriving DecidableEq, Repr

/-- A response, `(status[3:0], data[31:0])` (R11, R80). -/
structure Response where
  status : Status
  data : Word
deriving DecidableEq, Repr

/-- The position of the receive loop, register RX_STATE (R33). -/
inductive RxState where
  /-- 0 RX_IDLE: no receive in progress. -/
  | idle
  /-- 1 RX_HEAD: the loop is at its head check. -/
  | head
  /-- 2 RX_WAIT: the loop waits for one pulse measurement. -/
  | wait
  /-- 3: never reached (R33, R44 (f), I13). -/
  | unused
deriving DecidableEq, Repr

/-- The causes of a fault (R221). -/
inductive FaultCause where
  | illegalCommand
  | notConfigured
  | halfDuplexViolation
  | rxSequenceError
deriving DecidableEq, Repr

/-- The symbols a pulse duration stands for (R91, C1). -/
inductive Symbol where
  | unrecognized
  | start
  | zero
  | one
deriving DecidableEq, Repr

/-- The carrier commands TICK emits (R90). -/
inductive CarrierCommand where
  | hold
  | off
  | gap
  | markZero
  | markOne
deriving DecidableEq, Repr

/-- The configuration registers CFG.WRITE can write (R85). -/
inductive CfgReg where
  | start
  | short
  | long
  | gap
  | idle
  | tol
  | ctrl
deriving DecidableEq, Repr

/-- The block's registers (R20) and the model's own fields (log entries 1, 2 and 4). -/
structure State where
  /-- CFG_START, `start_pulse_duration`, 0 = no start pulse (R23). -/
  cfgStart : Word
  /-- CFG_SHORT, the reference duration of a Zero (R23). -/
  cfgShort : Word
  /-- CFG_LONG, the reference duration of a One (R23). -/
  cfgLong : Word
  /-- CFG_GAP, the gap before every transmitted symbol (R23). -/
  cfgGap : Word
  /-- CFG_IDLE, the longest silence before a received packet is reset (R23). -/
  cfgIdle : Word
  /-- CFG_TOL, half the width of every window (R23). -/
  cfgTol : Word
  /-- CFG_CTRL: PACKET_BITS [5:0], HAS_CHECKSUM [8], ACTIVE_LEVEL [9] (R24). -/
  cfgCtrl : Word
  /-- CONFIG_VALID: a CFG.COMMIT has succeeded since reset (R25). -/
  configValid : Bool
  /-- TX_ARMED (R26). -/
  txArmed : Bool
  /-- TX_IN_GAP (R27). -/
  txInGap : Bool
  /-- TX_REMAINING (R28). -/
  txRemaining : BitVec 6
  /-- TX_BUFFER (R29). -/
  txBuffer : Word
  /-- TX_LAST_TIME: the `now` of the TICK that last entered a phase (R30). -/
  txLastTime : Word
  /-- CARRIER_EN: 1 = `carrier_on()` (R31). -/
  carrierEn : Bool
  /-- RX_STATE (R33). -/
  rxState : RxState
  /-- RX_PACKET (R34). -/
  rxPacket : Word
  /-- RX_BITS, saturating at 63 (R35). -/
  rxBits : BitVec 6
  /-- RX_START_TIME (R36). -/
  rxStartTime : Word
  /-- RX_TIMEOUT, 0 = no deadline (R36). -/
  rxTimeout : Word
  /-- RX_LAST_ACCEPT (R37). -/
  rxLastAccept : Word
  /-- FAULTED (R38). -/
  faulted : Bool
  /-- FAULT_CODE: the code of the first fault since reset, 0 when none (R38). -/
  faultCode : BitVec 3
  /-- The model's: what the host presents and the block has not yet taken, oldest first (R69). -/
  hostQueue : List Input
  /-- The model's: what the tick source presents and the block has not yet taken, oldest first (R69). -/
  tickQueue : List Input
  /-- The model's: how many times both agents' inputs have met, the argument of the free choice (R68). -/
  arbiter : Nat
  /-- The model's: the response the latest step gave, none when it took no operation (R11). -/
  response : Option Response
  /-- The model's: the agent whose operation `response` answers. -/
  issuer : Option Agent
deriving DecidableEq, Repr

/-- The machine right after reset: every register 0 (R45), nothing presented and no response given. -/
def State.reset : State where
  cfgStart := 0
  cfgShort := 0
  cfgLong := 0
  cfgGap := 0
  cfgIdle := 0
  cfgTol := 0
  cfgCtrl := 0
  configValid := false
  txArmed := false
  txInGap := false
  txRemaining := 0
  txBuffer := 0
  txLastTime := 0
  carrierEn := false
  rxState := .idle
  rxPacket := 0
  rxBits := 0
  rxStartTime := 0
  rxTimeout := 0
  rxLastAccept := 0
  faulted := false
  faultCode := 0
  hostQueue := []
  tickQueue := []
  arbiter := 0
  response := none
  issuer := none

/-- Faults that stop the machine: there are none. The block's own faults are a state it enters and goes
on answering in (R222, R223), so no step of this model ends in a stopping fault (safe: nothing is cut off;
log entry 15). -/
inductive Fault where
deriving DecidableEq, Repr

/-- Refusals. Nothing raises one in this model: every operation has its meaning, and an illegal command
word raises the block's own fault ILLEGAL_COMMAND (R225). -/
inductive Refusal where
  /-- An instruction with no meaning yet, by its mnemonic: safe, since the model stops. No arm raises it. -/
  | notModelled (mnemonic : String)
deriving DecidableEq, Repr

end Sys2Proof.Machine
end

