-- ==== Sys2Proof/Machine/Operands.lean ====
section
/-! DEFINITION. The code tables of the command port (R33, R88, R90, R91, R221), the fields of the
configuration (R24, R110), the packet mask (R151), and the index of CFG.WRITE. -/

namespace Sys2Proof.Machine

/-- Zero-extension of a value to a response data word, `zext_32` (R9). -/
def zext32 {w : Nat} (v : BitVec w) : Word := v.setWidth 32

/-- The 4-bit status code (R88). -/
def Status.code : Status → BitVec 4
  | .ok => 0
  | .rearmRejected => 1
  | .invalidConfiguration => 2
  | .configLocked => 3
  | .rxContinue => 4
  | .rxDoneOk => 5
  | .rxTimeout => 6
  | .fault => 7

/-- The 2-bit value of RX_STATE (R33). -/
def RxState.code : RxState → BitVec 2
  | .idle => 0
  | .head => 1
  | .wait => 2
  | .unused => 3

/-- The FAULT_CODE of a cause (R221). -/
def FaultCause.code : FaultCause → BitVec 3
  | .illegalCommand => 1
  | .notConfigured => 2
  | .halfDuplexViolation => 3
  | .rxSequenceError => 4

/-- The 2-bit symbol code (R91). -/
def Symbol.code : Symbol → BitVec 2
  | .unrecognized => 0
  | .start => 1
  | .zero => 2
  | .one => 3

/-- The 3-bit carrier command code (R90). -/
def CarrierCommand.code : CarrierCommand → BitVec 3
  | .hold => 0
  | .off => 1
  | .gap => 2
  | .markZero => 3
  | .markOne => 4

/-- The response data of TICK, `{28'b0, done, ccmd[2:0]}` (R89). -/
def tickData (done : Bool) (c : CarrierCommand) : Word := zext32 (BitVec.ofBool done ++ c.code)

/-- The response data of CLASSIFY, `{30'b0, sym[1:0]}` (R89). -/
def classifyData (sym : Symbol) : Word := zext32 sym.code

/-- The response data of RX.PULSE, `{29'b0, idle_reset, sym[1:0]}` (R89). -/
def pulseData (idleReset : Bool) (sym : Symbol) : Word := zext32 (BitVec.ofBool idleReset ++ sym.code)

/-- The command that marks a bit: MARK_ONE for a 1, MARK_ZERO for a 0 (R186). -/
def markCommand (bit : Bool) : CarrierCommand := if bit then .markOne else .markZero

/-- `cfg.packet_bits`, CFG_CTRL[5:0] (R24, R110). -/
def State.packetBits (s : State) : BitVec 6 := s.cfgCtrl.extractLsb' 0 6

/-- `cfg.has_checksum`, CFG_CTRL[8] (R24, R110, R120). -/
def State.hasChecksum (s : State) : Bool := s.cfgCtrl.getLsbD 8

/-- `cfg.active_level`, CFG_CTRL[9] (R24, R110, R119). -/
def State.activeLevel (s : State) : Bool := s.cfgCtrl.getLsbD 9

/-- The bits of CFG_CTRL that a write can set; the reserved bits are stored as 0 (R24). -/
def ctrlWriteMask : Word := 0x0000033F

/-- The packet mask `2^cfg.packet_bits - 1`, in unbounded integers (R151). -/
def packetMask (s : State) : Nat := 2 ^ s.packetBits.toNat - 1

/-- The register an index names; 7 to 15 name none (R85). -/
def cfgRegOfIndex (idx : BitVec 4) : Option CfgReg :=
  match idx.toNat with
  | 0 => some .start
  | 1 => some .short
  | 2 => some .long
  | 3 => some .gap
  | 4 => some .idle
  | 5 => some .tol
  | 6 => some .ctrl
  | _ => none

end Sys2Proof.Machine
end

