-- ==== Sys2Proof/Machine/Flags.lean ====
section
/-! DEFINITION. Everything the block computes from its flags: the STATUS word (R39), the driven outputs
(R42) with what the Carrier Driver makes of them (R119, R190), and the source's transmitter states (R32).
The block has no condition codes (R40). -/

namespace Sys2Proof.Machine

/-- The STATUS word, QUERY selector 0 (R39): bits 26 down to 0, and bits [31:27] are 0. -/
def statusWord (s : State) : Word :=
  zext32 (s.faultCode ++ 0#2 ++ s.rxBits ++ 0#2 ++ s.txRemaining ++ 0#1 ++ BitVec.ofBool s.carrierEn ++
    BitVec.ofBool s.faulted ++ s.rxState.code ++ BitVec.ofBool s.configValid ++
    BitVec.ofBool s.txInGap ++ BitVec.ofBool s.txArmed)

/-- The outputs the block drives continuously from its state (R42). -/
structure Outputs where
  /-- `carrier_en`, to the Carrier Driver. -/
  carrierEn : Bool
  /-- `line_level`, to the Carrier Driver and the pulse measurement unit. -/
  lineLevel : Bool
  /-- `rx_listen`, to the pulse measurement unit. -/
  rxListen : Bool
  /-- `max_wait`, to the pulse measurement unit. -/
  maxWait : Word
deriving DecidableEq, Repr

/-- The driven outputs of a state (R42, R162). -/
def State.outputs (s : State) : Outputs where
  carrierEn := s.carrierEn
  lineLevel := s.activeLevel
  rxListen := decide (s.rxState = .wait)
  maxWait := Config.pulseMaxWait

/-- The two calls of the Carrier Driver's interface, both idempotent (R190, R235). -/
inductive CarrierCall where
  | carrierOn
  | carrierOff
deriving DecidableEq, Repr

/-- What the Carrier Driver sees of an emitted command: OFF and GAP are `carrier_off()`, a mark is
`carrier_on()`, HOLD is no call (R90, R190). -/
def CarrierCommand.driverCall : CarrierCommand → Option CarrierCall
  | .hold => none
  | .off => some .carrierOff
  | .gap => some .carrierOff
  | .markZero => some .carrierOn
  | .markOne => some .carrierOn

/-- The level the collaborators put on the line: with ACTIVE_LEVEL 0 a mark is high and idle is low, with
1 a mark is low and idle is high (R119). The block itself never applies the polarity. -/
def Outputs.lineHigh (o : Outputs) : Bool := xor o.carrierEn o.lineLevel

/-- `is_armed()`, STATUS[0] (R39, R211). -/
def isArmed (s : State) : Bool := (statusWord s).getLsbD 0

/-- The source's `Idle` (R32). -/
def txIdle (s : State) : Bool := !s.txArmed

/-- The pre-phase: armed, nothing emitted yet (R32). -/
def txPrePhase (s : State) : Bool := s.txArmed && !s.txInGap && decide (s.txRemaining = s.packetBits)

/-- The source's `Armed-Gap` (R32). -/
def txArmedGap (s : State) : Bool :=
  s.txArmed && s.txInGap && decide (1 ≤ s.txRemaining.toNat ∧ s.txRemaining.toNat ≤ s.packetBits.toNat)

/-- The source's `Armed-Symbol`: the mark of the bit at index TX_REMAINING (R32). -/
def txArmedSymbol (s : State) : Bool :=
  s.txArmed && !s.txInGap && decide (s.txRemaining.toNat < s.packetBits.toNat)

/-- The source's `Done`, implicit: the next TICK returns to `Idle` (R32). -/
def txDone (s : State) : Bool := s.txArmed && !s.txInGap && decide (s.txRemaining = 0)

end Sys2Proof.Machine
end

