-- ==== Sys2Proof/Machine/Ops.lean ====
section
/-! DEFINITION. The operations every meaning shares: elapsed time (R9), the response (R10), entering the
fault state (R222) and answering in it (R223), the checks before a body (R229), reset (R250), and taking the
next input of the two agents (R68, R69). The block has no memory (R60) and no return from a fault but reset
(R224, R231). -/

namespace Sys2Proof.Machine

/-- `elapsed(now, t) = (now - t) mod 2^32` (R9). -/
def elapsed (now t : Word) : Word := now - t

/-- `sat63(x)` (R9), as the 6-bit register RX_BITS holds it. -/
def sat63 (x : Nat) : BitVec 6 := BitVec.ofNat 6 (min x 63)

/-- `respond(status, data)` (R10). -/
def respond (status : Status) (data : Word) (s : State) : State := { s with response := some ⟨status, data⟩ }

/-- Fault entry, `raise Fault(code)` (R222): the fault registers are set, the carrier goes off at once, and
nothing else changes. -/
def raiseFault (c : FaultCause) (s : State) : State :=
  respond .fault (zext32 c.code) { s with faulted := true, faultCode := c.code, carrierEn := false }

/-- The answer of a faulted block to every operation but QUERY and TICK: status FAULT, the first fault's
code, no change (R223). -/
def answerFaulted (s : State) : State := respond .fault (zext32 s.faultCode) s

/-- The answer of a faulted block to TICK: the carrier off, status FAULT with the OFF command (R223). -/
def answerFaultedTick (s : State) : State :=
  respond .fault (zext32 CarrierCommand.off.code) { s with carrierEn := false }

/-- A command word that spells no operation (R225, and check 1 of R229). -/
def illegalCommand (s : State) : State :=
  if s.faulted then answerFaulted s else raiseFault .illegalCommand s

/-- What a faulted block does with an operation; none where the operation runs normally, which is QUERY
alone (R212, R223). -/
def faultedAnswer (i : Instr) (s : State) : Option State :=
  match i with
  | .nop => some (answerFaulted s)
  | .cfgWrite _ _ => some (answerFaulted s)
  | .cfgCommit => some (answerFaulted s)
  | .arm _ => some (answerFaulted s)
  | .tick _ => some (answerFaultedTick s)
  | .query _ => none
  | .classify _ => some (answerFaulted s)
  | .rxStart _ _ => some (answerFaulted s)
  | .rxCheck _ => some (answerFaulted s)
  | .rxPulse _ _ => some (answerFaulted s)

/-- The operations that need a committed configuration (R121). -/
def needsConfig : Instr → Bool
  | .nop => false
  | .cfgWrite _ _ => false
  | .cfgCommit => false
  | .arm _ => true
  | .tick _ => false
  | .query _ => false
  | .classify _ => true
  | .rxStart _ _ => true
  | .rxCheck _ => true
  | .rxPulse _ _ => true

/-- The operation would overlap receive and transmit: RX.START while armed, ARM while receiving (R227). -/
def breaksHalfDuplex (i : Instr) (s : State) : Bool :=
  match i with
  | .nop => false
  | .cfgWrite _ _ => false
  | .cfgCommit => false
  | .arm _ => decide (s.rxState ≠ .idle)
  | .tick _ => false
  | .query _ => false
  | .classify _ => false
  | .rxStart _ _ => s.txArmed
  | .rxCheck _ => false
  | .rxPulse _ _ => false

/-- The receive operation comes out of the order of R150 (R228). -/
def breaksRxSequence (i : Instr) (s : State) : Bool :=
  match i with
  | .nop => false
  | .cfgWrite _ _ => false
  | .cfgCommit => false
  | .arm _ => false
  | .tick _ => false
  | .query _ => false
  | .classify _ => false
  | .rxStart _ _ => decide (s.rxState ≠ .idle)
  | .rxCheck _ => decide (s.rxState ≠ .head)
  | .rxPulse _ _ => decide (s.rxState ≠ .wait)

/-- Checks 3 to 5 of R229, in their order: the fault an operation raises in a block that is not faulted. -/
def faultOf (i : Instr) (s : State) : Option FaultCause :=
  if needsConfig i && !s.configValid then some .notConfigured
  else if breaksHalfDuplex i s then some .halfDuplexViolation
  else if breaksRxSequence i s then some .rxSequenceError
  else none

/-- Checks 2 to 5 of R229 for an operation that decoded: the state after the response they decide, or none
where the operation's body runs. -/
def precheck (i : Instr) (s : State) : Option State :=
  if s.faulted then faultedAnswer i s else (faultOf i s).map (fun c => raiseFault c s)

/-- An operation: the checks of R229, then its body. -/
def afterChecks (i : Instr) (s : State) (body : State) : State := (precheck i s).getD body

/-- Reset (R250): every register takes the value of R45. What the agents still present, and the arbitration
count, are not the block's and stay (log entry 3). -/
def applyReset (s : State) : State :=
  { State.reset with hostQueue := s.hostQueue, tickQueue := s.tickQueue, arbiter := s.arbiter }

/-- A step in which nothing is presented: the block holds its state and gives no response (R238). -/
def waitForInput (s : State) : State := { s with response := none, issuer := none }

/-- The next input taken, the agent that presented it, and the state with that input taken off its queue.
Each agent's inputs are taken in order (R69); when both agents present one, the free choice decides (R68). -/
def takeInput (s : State) : Option (Agent × Input × State) :=
  match s.hostQueue, s.tickQueue with
  | [], [] => none
  | x :: rest, [] => some (.host, x, { s with hostQueue := rest })
  | [], y :: rest => some (.tickSource, y, { s with tickQueue := rest })
  | x :: hostRest, y :: tickRest =>
    if Config.tickServedFirst s.arbiter then
      some (.tickSource, y, { s with tickQueue := tickRest, arbiter := s.arbiter + 1 })
    else some (.host, x, { s with hostQueue := hostRest, arbiter := s.arbiter + 1 })

/-- The state in which a transaction is the very next input: first of the host's, with nothing presented by
the tick source (log entry 12). -/
def presentFirst (t : Transaction) (s : State) : State :=
  { s with hostQueue := .transaction t :: s.hostQueue, tickQueue := [] }

end Sys2Proof.Machine
end

