-- ==== Sys2Proof/Machine/Configuration.lean ====
section
/-! DEFINITION. CFG.WRITE and CFG.COMMIT, and the validation of a configuration (40_config.md). -/

namespace Sys2Proof.Machine

/-- Write one configuration register; CFG_CTRL is masked (R24, R111). -/
def writeCfg (r : CfgReg) (value : Word) (s : State) : State :=
  match r with
  | .start => { s with cfgStart := value }
  | .short => { s with cfgShort := value }
  | .long => { s with cfgLong := value }
  | .gap => { s with cfgGap := value }
  | .idle => { s with cfgIdle := value }
  | .tol => { s with cfgTol := value }
  | .ctrl => { s with cfgCtrl := value &&& ctrlWriteMask }

/-- Two reference durations overlap: `|a - b| <= 2 * tol`, in unbounded integers (R115). -/
def windowsOverlap (tol a b : Word) : Bool :=
  decide (((a.toNat : Int) - (b.toNat : Int)).natAbs ≤ 2 * tol.toNat)

/-- No two positions of the list hold references that overlap (R116). -/
def pairwiseDisjoint (tol : Word) : List Word → Bool
  | [] => true
  | a :: rest => rest.all (fun b => !windowsOverlap tol a b) && pairwiseDisjoint tol rest

/-- The window set W: short, long and gap, and start when it is not 0 (R116, C4). -/
def windowSet (s : State) : List Word :=
  [s.cfgShort, s.cfgLong, s.cfgGap] ++ (if s.cfgStart ≠ 0 then [s.cfgStart] else [])

/-- `windows_disjoint()` (R116). -/
def windowsDisjoint (s : State) : Bool := pairwiseDisjoint s.cfgTol (windowSet s)

/-- `packet_bits_ok()` (R114). -/
def packetBitsOk (s : State) : Bool :=
  decide (1 ≤ s.packetBits.toNat ∧ s.packetBits.toNat ≤ Config.packetWidth)

/-- `config_ok()` (R113); nothing else is validated (R117). -/
def configOk (s : State) : Bool := packetBitsOk s && windowsDisjoint s

/-- The body of CFG.WRITE once its index names a register (R111). -/
def cfgWriteBody (r : CfgReg) (value : Word) (s : State) : State :=
  if s.configValid then respond .configLocked 0 s else respond .ok 0 (writeCfg r value s)

/-- The body of CFG.COMMIT (R112). -/
def cfgCommitBody (s : State) : State :=
  if s.configValid then respond .configLocked 0 s
  else if configOk s then respond .ok 0 { s with configValid := true }
  else respond .invalidConfiguration 0 s

/-- CFG.WRITE (R111). An index of 7 to 15 is ILLEGAL_COMMAND, the first check of R229 (log entry 11). -/
def execCfgWrite (idx : BitVec 4) (value : Word) (s : State) : Host.Outcome State Fault Refusal :=
  match cfgRegOfIndex idx with
  | none => .next (illegalCommand s)
  | some r => .next (afterChecks (.cfgWrite idx value) s (cfgWriteBody r value s))

/-- CFG.COMMIT (R112). -/
def execCfgCommit (s : State) : Host.Outcome State Fault Refusal :=
  .next (afterChecks .cfgCommit s (cfgCommitBody s))

end Sys2Proof.Machine
end

