-- ==== Sys2Proof/Machine/Control.lean ====
section
/-! DEFINITION. NOP and QUERY (44_control.md). -/

namespace Sys2Proof.Machine

/-- The QUERY selector map: 0 is STATUS, 1 to 16 are registers zero-extended, every other selector reads
0 (R41, R211). -/
def readSelector (selector : Word) (s : State) : Word :=
  match selector.toNat with
  | 0 => statusWord s
  | 1 => s.cfgStart
  | 2 => s.cfgShort
  | 3 => s.cfgLong
  | 4 => s.cfgGap
  | 5 => s.cfgIdle
  | 6 => s.cfgTol
  | 7 => s.cfgCtrl
  | 8 => s.txBuffer
  | 9 => zext32 s.txRemaining
  | 10 => s.txLastTime
  | 11 => s.rxPacket
  | 12 => zext32 s.rxBits
  | 13 => s.rxStartTime
  | 14 => s.rxTimeout
  | 15 => s.rxLastAccept
  | 16 => zext32 s.faultCode
  | _ => 0

/-- NOP (R210). -/
def execNop (s : State) : Host.Outcome State Fault Refusal :=
  .next (afterChecks .nop s (respond .ok 0 s))

/-- QUERY (R211): it runs normally when the block is faulted (R212) and has no side effect. -/
def execQuery (selector : Word) (s : State) : Host.Outcome State Fault Refusal :=
  .next (afterChecks (.query selector) s (respond .ok (readSelector selector s) s))

end Sys2Proof.Machine
end

