-- ==== Sys2Proof/Machine/Classifier.lean ====
section
/-! DEFINITION. The timing classifier and CLASSIFY (41_classifier.md). -/

namespace Sys2Proof.Machine

/-- `in_window(ref, d)`: both bounds inclusive and computed in unbounded integers (R130, C2). -/
def inWindow (tol ref d : Word) : Bool :=
  decide ((ref.toNat : Int) - (tol.toNat : Int) ≤ (d.toNat : Int) ∧
    (d.toNat : Int) ≤ (ref.toNat : Int) + (tol.toNat : Int))

/-- `classify(d)`: START, then ZERO, then ONE (R131, R133). There is no gap symbol (R135, C1). -/
def classify (d : Word) (s : State) : Symbol :=
  if s.cfgStart ≠ 0 ∧ inWindow s.cfgTol s.cfgStart d = true then .start
  else if inWindow s.cfgTol s.cfgShort d then .zero
  else if inWindow s.cfgTol s.cfgLong d then .one
  else .unrecognized

/-- CLASSIFY (R137). -/
def execClassify (measured : Word) (s : State) : Host.Outcome State Fault Refusal :=
  .next (afterChecks (.classify measured) s (respond .ok (classifyData (classify measured s)) s))

end Sys2Proof.Machine
end

