-- ==== Sys2Proof/Machine/Receive.lean ====
section
/-! DEFINITION. The receive accumulator: RX.START, RX.CHECK and RX.PULSE (42_receive.md). -/

namespace Sys2Proof.Machine

/-- The body of RX.START (R152). -/
def rxStartBody (timeout now : Word) (s : State) : State :=
  respond .ok 0
    { s with
      rxPacket := 0
      rxBits := 0
      rxStartTime := now
      rxTimeout := timeout
      rxLastAccept := now
      rxState := .head }

/-- `complete()`: CHECKSUM_VALID is consulted only when `cfg.has_checksum` is 1 (R120, R154). -/
def rxComplete (s : State) : Bool :=
  (!s.hasChecksum || Config.checksumValid s.rxPacket) && decide (s.rxBits = s.packetBits)

/-- `expired(now)`: strictly more than the timeout has elapsed since RX.START (R155). -/
def rxExpired (now : Word) (s : State) : Bool :=
  decide (s.rxTimeout ≠ 0) && decide (s.rxTimeout < elapsed now s.rxStartTime)

/-- The body of RX.CHECK: completion is tested before the deadline (R153). -/
def rxCheckBody (now : Word) (s : State) : State :=
  if rxComplete s then respond .rxDoneOk s.rxPacket { s with rxState := .idle }
  else if rxExpired now s then respond .rxTimeout 0 { s with rxState := .idle }
  else respond .rxContinue 0 { s with rxState := .wait }

/-- The packet with one more bit shifted in at bit 0, the shift in unbounded integers and then the mask
(R156, R158). -/
def shiftedPacket (bit : Bool) (s : State) : Word :=
  BitVec.ofNat 32 ((2 * s.rxPacket.toNat + bit.toNat) &&& packetMask s)

/-- ZERO and ONE: one bit is shifted in and counted, and the symbol is accepted at `now` (R156, R158). -/
def acceptBit (bit : Bool) (now : Word) (s : State) : State :=
  { s with
    rxPacket := shiftedPacket bit s
    rxBits := sat63 (s.rxBits.toNat + 1)
    rxLastAccept := now }

/-- START: the accumulator is cleared, and the symbol is accepted at `now` (R156, R157). -/
def acceptStart (now : Word) (s : State) : State :=
  { s with rxPacket := 0, rxBits := 0, rxLastAccept := now }

/-- The time since the last accepted symbol is strictly greater than `cfg.idle` (R159). -/
def idleExceeded (now : Word) (s : State) : Bool := decide (s.cfgIdle < elapsed now s.rxLastAccept)

/-- UNRECOGNIZED past the idle gap: the accumulator is cleared, RX_LAST_ACCEPT stays (R156, R159). -/
def clearAccumulator (s : State) : State := { s with rxPacket := 0, rxBits := 0 }

/-- The end of every RX.PULSE: the loop goes back to its head and the symbol is reported (R156). -/
def reportPulse (idleReset : Bool) (sym : Symbol) (s : State) : State :=
  respond .ok (pulseData idleReset sym) { s with rxState := .head }

/-- The body of RX.PULSE (R156). -/
def rxPulseBody (measured now : Word) (s : State) : State :=
  match classify measured s with
  | .start => reportPulse false .start (acceptStart now s)
  | .zero => reportPulse false .zero (acceptBit false now s)
  | .one => reportPulse false .one (acceptBit true now s)
  | .unrecognized =>
    if idleExceeded now s then reportPulse true .unrecognized (clearAccumulator s)
    else reportPulse false .unrecognized s

/-- RX.START (R152). -/
def execRxStart (timeout now : Word) (s : State) : Host.Outcome State Fault Refusal :=
  .next (afterChecks (.rxStart timeout now) s (rxStartBody timeout now s))

/-- RX.CHECK (R153). -/
def execRxCheck (now : Word) (s : State) : Host.Outcome State Fault Refusal :=
  .next (afterChecks (.rxCheck now) s (rxCheckBody now s))

/-- RX.PULSE (R156). -/
def execRxPulse (measured now : Word) (s : State) : Host.Outcome State Fault Refusal :=
  .next (afterChecks (.rxPulse measured now) s (rxPulseBody measured now s))

end Sys2Proof.Machine
end

