-- ==== Sys2Proof/Machine/Transmit.lean ====
section
/-! DEFINITION. The transmit scheduler: ARM and TICK (43_transmit.md). -/

namespace Sys2Proof.Machine

/-- The body of ARM: a test-and-set of TX_ARMED (R71, R181). -/
def armBody (packet : Word) (s : State) : State :=
  if s.txArmed then respond .rearmRejected 0 s
  else
    respond .ok 0
      { s with
        txBuffer := packet
        txRemaining := s.packetBits
        txInGap := false
        txArmed := true }

/-- `phase_duration()` (R183): the gap, 0 in the pre-phase (R184), else the symbol duration of the bit being
marked, the one TX_REMAINING indexes. -/
def phaseDuration (s : State) : Word :=
  if s.txInGap then s.cfgGap
  else if s.txRemaining = s.packetBits then 0
  else if s.txBuffer.getLsbD s.txRemaining.toNat then s.cfgLong
  else s.cfgShort

/-- The current phase has not yet lasted its duration at `now` (step 3 of R182). -/
def midPhase (now : Word) (s : State) : Bool := decide (elapsed now s.txLastTime < phaseDuration s)

/-- The response of TICK: the carrier command and the done bit (R89, R191). -/
def answerTick (done : Bool) (c : CarrierCommand) (s : State) : State := respond .ok (tickData done c) s

/-- TICK when not armed (R188). -/
def tickIdle (s : State) : State := answerTick false .off { s with carrierEn := false }

/-- The completing TICK (R187). -/
def tickComplete (s : State) : State := answerTick true .off { s with txArmed := false, carrierEn := false }

/-- Gap entry (R185). -/
def enterGap (now : Word) (s : State) : State :=
  answerTick false .gap { s with txInGap := true, txLastTime := now, carrierEn := false }

/-- The next bit to mark: bit `TX_REMAINING - 1` of TX_BUFFER (R186). -/
def nextBit (s : State) : Bool := s.txBuffer.getLsbD (s.txRemaining.toNat - 1)

/-- Mark entry (R186). -/
def enterMark (now : Word) (s : State) : State :=
  answerTick false (markCommand (nextBit s))
    { s with
      txInGap := false
      txLastTime := now
      carrierEn := true
      txRemaining := s.txRemaining - 1 }

/-- The body of TICK: the source's steps 1 to 5, in their order (R182). -/
def tickBody (now : Word) (s : State) : State :=
  if !s.txArmed then tickIdle s
  else if s.txRemaining = 0 then tickComplete s
  else if midPhase now s then answerTick false .hold s
  else if !s.txInGap then enterGap now s
  else enterMark now s

/-- ARM (R181). -/
def execArm (packet : Word) (s : State) : Host.Outcome State Fault Refusal :=
  .next (afterChecks (.arm packet) s (armBody packet s))

/-- TICK (R182). -/
def execTick (now : Word) (s : State) : Host.Outcome State Fault Refusal :=
  .next (afterChecks (.tick now) s (tickBody now s))

end Sys2Proof.Machine
end

