-- ==== Sys2Proof/Machine/Dispatch.lean ====
section
/-! DEFINITION. One arm per operation of the opcode table (R83). -/

namespace Sys2Proof.Machine

def exec (i : Instr) (s : State) : Host.Outcome State Fault Refusal :=
  match i with
  | .nop => Sys2Proof.Machine.execNop s
  | .cfgWrite idx value => Sys2Proof.Machine.execCfgWrite idx value s
  | .cfgCommit => Sys2Proof.Machine.execCfgCommit s
  | .arm packet => Sys2Proof.Machine.execArm packet s
  | .tick now => Sys2Proof.Machine.execTick now s
  | .query selector => Sys2Proof.Machine.execQuery selector s
  | .classify measured => Sys2Proof.Machine.execClassify measured s
  | .rxStart timeout now => Sys2Proof.Machine.execRxStart timeout now s
  | .rxCheck now => Sys2Proof.Machine.execRxCheck now s
  | .rxPulse measured now => Sys2Proof.Machine.execRxPulse measured now s

end Sys2Proof.Machine
end

