-- ==== Sys2Proof/Machine/Port.lean ====
section
/-! DEFINITION. The command port: what one presented input does to the block (R80, R225, R229, R250), and
what a sequence of operations does. -/

namespace Sys2Proof.Machine

/-- One transaction: the operation its command word spells, or ILLEGAL_COMMAND (R87, R225, R229). -/
def serveTransaction (t : Transaction) (s : State) : Host.Outcome State Fault Refusal :=
  match decode t with
  | .legal i => exec i s
  | .illegal _ => .next (illegalCommand s)

/-- One input of an agent: an operation, answered to that agent, or reset (R67, R250). -/
def serveInput (agent : Agent) (x : Input) (s : State) : Host.Outcome State Fault Refusal :=
  match x with
  | .transaction t => serveTransaction t { s with issuer := some agent }
  | .reset => .next (applyReset s)

/-- A sequence of operations, each taken on the state the one before it leaves (R68). -/
def runInstrs : List Instr → State → Host.Outcome State Fault Refusal
  | [], s => .next s
  | i :: rest, s =>
    match exec i s with
    | .next t => runInstrs rest t
    | .fault f => .fault f
    | .refused r => .refused r

/-- The responses to a sequence of operations, one for each (R11). -/
def responsesOf : List Instr → State → List Response
  | [], _ => []
  | i :: rest, s =>
    match exec i s with
    | .next t => t.response.toList ++ responsesOf rest t
    | .fault _ => []
    | .refused _ => []

end Sys2Proof.Machine
end

