-- ==== Sys2Proof/Machine/Step.lean ====
section
/-! DEFINITION. One step: the block takes the next input an agent presents and serves it whole (R67, R68),
or holds its state when nothing is presented (R238). -/

namespace Sys2Proof.Machine

/-- One step of the machine. -/
def step (s : State) : Host.Outcome State Fault Refusal :=
  match takeInput s with
  | none => .next (waitForInput s)
  | some (agent, x, t) => serveInput agent x t

/-- The state whose very next step takes the transaction with the bits of `w` (log entries 1 and 12). -/
def State.withFetchWord (s : State) (nbits w : Nat) : State := presentFirst (transactionOfBits nbits w) s

end Sys2Proof.Machine
end

