-- ==== Sys2Proof/Machine/HostProcedures.lean ====
section
/-! DEFINITION. What the host does with the block's operations, as the spec gives it: loading a configuration
(R93, R252), the RECEIVE procedure (R164) beside the source's own receive loop (R150 to R161), and the shared
time base (R234). -/

namespace Sys2Proof.Machine

/-- `CFG.LOAD`: the seven CFG.WRITEs and the CFG.COMMIT of the boot sequence (R93, R252). -/
def cfgLoad (start short long gap idle tol ctrl : Word) : List Instr :=
  [.cfgWrite 0 start, .cfgWrite 1 short, .cfgWrite 2 long, .cfgWrite 3 gap, .cfgWrite 4 idle,
   .cfgWrite 5 tol, .cfgWrite 6 ctrl, .cfgCommit]

/-- `IS_ARMED`: `QUERY 0`, whose answer is bit 0 of the data word (R93). -/
def isArmedQuery : Instr := .query 0

/-- `CTRL(n, c, l)`: the CFG_CTRL value of three disjoint fields (R93). -/
def ctrlValue (n c l : Nat) : Nat := n + c * 2 ^ 8 + l * 2 ^ 9

/-- The timestamp of a moment of the shared, free-running time base, which wraps modulo 2^32 (R234). -/
def timestamp (moment : Nat) : Word := BitVec.ofNat 32 moment

/-- What one turn of the receive loop reads from outside the block: the time of its RX.CHECK, and the measured
duration and the time of its RX.PULSE (R164; log entry 16). -/
structure Sample where
  checkNow : Word
  measured : Word
  pulseNow : Word
deriving DecidableEq, Repr

/-- How a receive stands. -/
inductive ReceiveResult where
  /-- `Ok(data)`. -/
  | ok (packet : Word)
  /-- `Timeout`. -/
  | timeout
  /-- The samples have run out and the loop goes on (log entry 16). -/
  | waiting
  /-- An operation stopped the machine. None does (log entry 15), so no receive ends so. -/
  | stopped
deriving DecidableEq, Repr

/-- The loop of RECEIVE (R164): RX.CHECK; return on RX_DONE_OK and on RX_TIMEOUT; on every other status, FAULT among
them, a measurement and its RX.PULSE, whose response the loop does not read, and round again. -/
def receiveLoop : List Sample → State → ReceiveResult × State
  | [], s => (.waiting, s)
  | x :: rest, s =>
    match exec (.rxCheck x.checkNow) s with
    | .next t =>
      match t.response with
      | some ⟨.rxDoneOk, data⟩ => (.ok data, t)
      | some ⟨.rxTimeout, _⟩ => (.timeout, t)
      | _ =>
        match exec (.rxPulse x.measured x.pulseNow) t with
        | .next u => receiveLoop rest u
        | .fault _ => (.stopped, t)
        | .refused _ => (.stopped, t)
    | .fault _ => (.stopped, s)
    | .refused _ => (.stopped, s)

/-- RECEIVE(timeout) (R164), its RX.START at `now`; the procedure does not read RX.START's response. -/
def receive (timeout now : Word) (samples : List Sample) (s : State) : ReceiveResult × State :=
  match exec (.rxStart timeout now) s with
  | .next t => receiveLoop samples t
  | .fault _ => (.stopped, s)
  | .refused _ => (.stopped, s)

/-- The local variables of the source's receive loop, `bits_seen` without a bound (10_state.md, R35). -/
structure LoopVars where
  packet : Nat
  bitsSeen : Nat
  lastAccepted : Word
deriving DecidableEq, Repr

/-- Steps 2b to 2f of the source's loop for one measured pulse (R156 to R159). -/
def sourceUpdate (cfg : State) (x : Sample) (v : LoopVars) : LoopVars :=
  match classify x.measured cfg with
  | .start => { packet := 0, bitsSeen := 0, lastAccepted := x.pulseNow }
  | .zero =>
    { packet := (v.packet <<< 1) &&& packetMask cfg, bitsSeen := v.bitsSeen + 1, lastAccepted := x.pulseNow }
  | .one =>
    { packet := ((v.packet <<< 1) ||| 1) &&& packetMask cfg, bitsSeen := v.bitsSeen + 1,
      lastAccepted := x.pulseNow }
  | .unrecognized =>
    if cfg.cfgIdle < elapsed x.pulseNow v.lastAccepted then { v with packet := 0, bitsSeen := 0 } else v

/-- The source's blocking receive loop over the same samples: its exit condition, its result, and its update
(R150, R153 to R160), in the configuration of `cfg`. -/
def sourceLoop (cfg : State) (timeout start : Word) : List Sample → LoopVars → ReceiveResult
  | [], _ => .waiting
  | x :: rest, v =>
    if (cfg.hasChecksum = false ∨ Config.checksumValid (BitVec.ofNat 32 v.packet) = true) ∧
        v.bitsSeen = cfg.packetBits.toNat then
      .ok (BitVec.ofNat 32 v.packet)
    else if timeout ≠ 0 ∧ timeout < elapsed x.checkNow start then .timeout
    else sourceLoop cfg timeout start rest (sourceUpdate cfg x v)

end Sys2Proof.Machine
end

