-- ==== Sys2Proof/Machine/Duties.lean ====
section
/-! DEFINITION. The duties of the agents (R239): those whose breach the block catches, those it cannot see, and
the times of the operations. The block assumes none of them; they constrain no step (log entry 14). -/

namespace Sys2Proof.Machine

/-- An operation as an agent issues it: by whom, and at which moment of the shared time base (R234, R239). -/
structure TimedOp where
  agent : Agent
  instr : Instr
  moment : Nat
deriving DecidableEq, Repr

/-- The tick source issues TICK and the host the rest (R233), and the duties whose breach the block catches, as a
fault or as a status (R239): the configuration is written before its commit, changed only through reset after it,
and used only after it; a packet is armed only when none is in flight and no receive is in progress; a receive is
started only when not armed, and its RX.CHECK and RX.PULSE alternate. -/
def operationInOrder (agent : Agent) (i : Instr) (s : State) : Bool :=
  match i with
  | .nop => decide (agent = .host)
  | .cfgWrite idx _ => decide (agent = .host) && mappedIndex idx && !s.configValid
  | .cfgCommit => decide (agent = .host) && !s.configValid
  | .arm _ => decide (agent = .host) && s.configValid && !s.txArmed && decide (s.rxState = .idle)
  | .tick _ => decide (agent = .tickSource)
  | .query _ => decide (agent = .host)
  | .classify _ => decide (agent = .host) && s.configValid
  | .rxStart _ _ => decide (agent = .host) && s.configValid && !s.txArmed && decide (s.rxState = .idle)
  | .rxCheck _ => decide (agent = .host) && s.configValid && decide (s.rxState = .head)
  | .rxPulse _ _ => decide (agent = .host) && s.configValid && decide (s.rxState = .wait)

/-- `operationInOrder` of each operation of a run, on the state the ones before it leave. -/
def operationsInOrder : State → List TimedOp → Bool
  | _, [] => true
  | s, x :: rest =>
    match exec x.instr s with
    | .next t => operationInOrder x.agent x.instr s && operationsInOrder t rest
    | .fault _ => false
    | .refused _ => false

/-- The duty of cadence: TICK_PERIOD is shorter than the shortest phase (R239, R254). -/
def tickCadenceKept (s : State) : Prop :=
  Config.tickPeriod < s.cfgGap ∧ Config.tickPeriod < s.cfgShort ∧ Config.tickPeriod < s.cfgLong

/-- The duty of the measurement unit: an answer within PULSE_MAX_WAIT, 0 when no pulse came (R162, R239). -/
def measurementInBound (measured : Word) : Prop := measured ≤ Config.pulseMaxWait

/-- The codec has filled the checksum field of the packet the host arms (R120, R239): the bits that are sent
satisfy its predicate, when the configuration has a checksum (log entry 14). -/
def checksumFilled (packet : Word) (s : State) : Prop :=
  s.hasChecksum = true → Config.checksumValid (BitVec.ofNat 32 (packet.toNat &&& packetMask s)) = true

/-- The duties the block cannot see (R239): the armed packet's checksum, the cadence of TICK while a packet is in
flight, and the bound of a measurement. -/
def unseenDuty (i : Instr) (s : State) : Prop :=
  match i with
  | .nop => True
  | .cfgWrite _ _ => True
  | .cfgCommit => True
  | .arm packet => checksumFilled packet s
  | .tick _ => s.txArmed = true → tickCadenceKept s
  | .query _ => True
  | .classify _ => True
  | .rxStart _ _ => True
  | .rxCheck _ => True
  | .rxPulse measured _ => measurementInBound measured

/-- `unseenDuty` of each operation of a run, on the state the ones before it leave. -/
def unseenDutiesKept : State → List TimedOp → Prop
  | _, [] => True
  | s, x :: rest =>
    match exec x.instr s with
    | .next t => unseenDuty x.instr s ∧ unseenDutiesKept t rest
    | .fault _ => False
    | .refused _ => False

/-- The `now` operand of an operation, where it has one (R234). -/
def nowOperand : Instr → Option Word
  | .nop => none
  | .cfgWrite _ _ => none
  | .cfgCommit => none
  | .arm _ => none
  | .tick now => some now
  | .query _ => none
  | .classify _ => none
  | .rxStart _ now => some now
  | .rxCheck now => some now
  | .rxPulse _ now => some now

/-- Every `now` is read from the shared time base (R234, R239). -/
def timesFromTimeBase (ops : List TimedOp) : Bool :=
  ops.all (fun x => (nowOperand x.instr).all (fun now => decide (now = timestamp x.moment)))

/-- The operation is TICK. -/
def isTick : Instr → Bool
  | .nop => false
  | .cfgWrite _ _ => false
  | .cfgCommit => false
  | .arm _ => false
  | .tick _ => true
  | .query _ => false
  | .classify _ => false
  | .rxStart _ _ => false
  | .rxCheck _ => false
  | .rxPulse _ _ => false

/-- The moments of the TICKs of a run. -/
def tickMoments (ops : List TimedOp) : List Nat := (ops.filter (fun x => isTick x.instr)).map (fun x => x.moment)

/-- The tick source issues TICK every TICK_PERIOD (R234, R239). -/
def ticksEveryPeriod : List Nat → Prop
  | [] => True
  | [_] => True
  | a :: b :: rest => b = a + Config.tickPeriod.toNat ∧ ticksEveryPeriod (b :: rest)

/-- The moments of the time base do not decrease (R239). -/
def timesAdvance : List Nat → Bool
  | [] => true
  | [_] => true
  | a :: b :: rest => decide (a ≤ b) && timesAdvance (b :: rest)

/-- The moment at which the phase after an operation began: the operation's own where it entered a gap or a mark,
the moment before it where it did not, and none where no timed phase is running (idle, the pre-phase, or a
transmission abandoned by a fault). `s` and `t` are the states before and after the operation. -/
def phaseBegun (begun : Option Nat) (moment : Nat) (s t : State) : Option Nat :=
  if !t.txArmed || t.faulted then none
  else if s.txArmed && (s.txInGap != t.txInGap) then some moment
  else begun

/-- Any two TICKs of one phase are less than 2^32 apart (R239, R262): each TICK comes less than 2^32 after the TICK
that began the phase it finds, `begun` for the first of the run. -/
def phaseTimesKept : Option Nat → State → List TimedOp → Bool
  | _, _, [] => true
  | begun, s, x :: rest =>
    match exec x.instr s with
    | .next t =>
      (!isTick x.instr || begun.all (fun b => decide (x.moment < b + 2 ^ 32))) &&
        phaseTimesKept (phaseBegun begun x.moment s t) t rest
    | .fault _ => false
    | .refused _ => false

/-- A run of operations from `s`, in a phase that began at `begun`, keeps every duty of R239. -/
structure dutiesKept (begun : Option Nat) (s : State) (ops : List TimedOp) : Prop where
  /-- The duties the block catches, and who issues what. -/
  inOrder : operationsInOrder s ops = true
  /-- The duties the block cannot see. -/
  unseen : unseenDutiesKept s ops
  /-- Every `now` is from the shared time base. -/
  timestamps : timesFromTimeBase ops = true
  /-- TICK comes every TICK_PERIOD. -/
  everyPeriod : ticksEveryPeriod (tickMoments ops)
  /-- The times of the TICKs do not decrease. -/
  advance : timesAdvance (tickMoments ops) = true
  /-- Two TICKs of one phase are less than 2^32 apart. -/
  phases : phaseTimesKept begun s ops = true

/-- An input that is an operation with the command word of TICK. -/
def Input.isTick : Input → Bool
  | .transaction t => decide (t.cmd = 0x04)
  | .reset => false

/-- The same duty of R233 on what the agents present: the tick source issues only TICK and the host everything else
(R239). -/
def agentsKeepTheirDuties (s : State) : Bool :=
  s.tickQueue.all Input.isTick && s.hostQueue.all (fun x => !x.isTick)

end Sys2Proof.Machine
end

