-- ==== Sys2Proof/Safety.lean ====
section
/-! DEFINITION. What a good state and a good run are: the invariant of every reachable state (R44 and what
the rules beside it say of the registers), the end of a run (R253), the hazard of R260, and the responses of an
armed cycle (R192, R195). The agents' duties (R239) stand in Machine/Duties.lean. -/

namespace Sys2Proof.Machine

/-- The invariant of every state reachable from reset. The first six fields are R44 (a) to (f). -/
structure State.Inv (s : State) : Prop where
  /-- R44 (a). -/
  armedIsConfigured : s.txArmed = true → s.configValid = true
  /-- R44 (b). -/
  remainingInPacket : s.txArmed = true → s.txRemaining.toNat ≤ s.packetBits.toNat
  /-- R44 (c). -/
  halfDuplex : s.txArmed = true → s.rxState = .idle
  /-- R44 (d). -/
  receivingIsConfigured : s.rxState ≠ .idle → s.configValid = true
  /-- R44 (e). -/
  carrierOnlyInMark : s.carrierEn = true → s.txArmed = true ∧ s.txInGap = false ∧ s.faulted = false
  /-- R44 (f). -/
  rxStateUsed : s.rxState ≠ .unused
  /-- A committed configuration passed its validation (R112, R118, I3, I4). -/
  committedIsValid : s.configValid = true → configOk s = true
  /-- The reserved bits of CFG_CTRL read as 0 (R24, I12). -/
  ctrlReservedZero : s.cfgCtrl &&& ~~~ctrlWriteMask = 0
  /-- FAULT_CODE is 0 when there is no fault (R38). -/
  noFaultNoCode : s.faulted = false → s.faultCode = 0
  /-- FAULT_CODE holds one of the codes 1 to 4 after a fault (R221, I14). -/
  faultHasCode : s.faulted = true → 1 ≤ s.faultCode.toNat ∧ s.faultCode.toNat ≤ 4
  /-- The bits of RX_PACKET at and above `cfg.packet_bits` are 0 (R34). -/
  packetInMask : s.rxPacket.toNat < 2 ^ s.packetBits.toNat
  /-- No receive has filled RX_PACKET before the configuration is committed (R34, R226). -/
  packetNeedsConfig : s.configValid = false → s.rxPacket = 0
  /-- TX_REMAINING takes the values 0 to 32 (R28). -/
  remainingAtMost32 : s.txRemaining.toNat ≤ 32
  /-- In the gap phase a bit is left to mark (R32, row `Armed-Gap`). -/
  gapHasBitLeft : s.txArmed = true → s.txInGap = true → s.txRemaining ≠ 0

/-- The block is quiescent (R253). -/
def quiescent (s : State) : Bool := !s.txArmed && decide (s.rxState = .idle)

/-- A run that leaves this state is complete: quiescent and not faulted (R253). -/
def runComplete (s : State) : Bool := quiescent s && !s.faulted

/-- The hazard of R260: the measurement-timeout value 0 lies in a symbol's window. -/
def zeroInWindow (s : State) : Bool := decide (classify 0 s ≠ .unrecognized)

/-- TICKs spaced evenly, `n` of them, the first at `first` (R195). -/
def evenTicks (first period : Word) : Nat → List Instr
  | 0 => []
  | n + 1 => .tick first :: evenTicks (first + period) period n

/-- The response of a TICK that emits HOLD (R90). -/
def holdResponse : Response := ⟨.ok, 0⟩

/-- The response of a TICK that emits OFF with done = 0 (R90). -/
def offResponse : Response := ⟨.ok, 1⟩

/-- The response of a TICK that emits GAP (R90). -/
def gapResponse : Response := ⟨.ok, 2⟩

/-- The response of a TICK that marks a bit: MARK_ZERO 3, MARK_ONE 4 (R90, R186). -/
def markResponse (bit : Bool) : Response := ⟨.ok, if bit then 4 else 3⟩

/-- The response of the completing TICK: OFF with done = 1 (R89, R191). -/
def doneResponse : Response := ⟨.ok, 9⟩

/-- The response is not HOLD. -/
def notHold (r : Response) : Bool := decide (r ≠ holdResponse)

/-- The response marks a bit. -/
def isMark (r : Response) : Bool := decide (r = markResponse false ∨ r = markResponse true)

/-- The responses of one armed cycle with `n` bits left to send and a gap to come first, HOLDs left out: for
each bit from `n - 1` down to 0 a GAP and its mark, and the completing OFF at the end (R192). -/
def cycleResponses (buffer : Word) : Nat → List Response
  | 0 => [doneResponse]
  | n + 1 => gapResponse :: markResponse (buffer.getLsbD n) :: cycleResponses buffer n

/-- How many evenly spaced TICKs a phase of a duration lasts: `max(1, ceil(dur / P))` (R195, C8). -/
def phaseTicks (dur period : Word) : Nat := max 1 ((dur.toNat + (period.toNat - 1)) / period.toNat)

/-- The symbol duration of a bit: `cfg.long` for 1, `cfg.short` for 0 (R195). -/
def symbolDuration (s : State) (bit : Bool) : Word := if bit then s.cfgLong else s.cfgShort

/-- The responses to evenly spaced TICKs after the one that began the gap before bit `n - 1`, to the end of the
cycle: the mark of bit 0 lasts one TICK, every other phase lasts `phaseTicks` (R195). -/
def evenCycle (s : State) (period : Word) : Nat → List Response
  | 0 => []
  | n + 1 =>
    List.replicate (phaseTicks s.cfgGap period - 1) holdResponse ++
      markResponse (s.txBuffer.getLsbD n) ::
        (if n = 0 then [doneResponse]
         else
          List.replicate (phaseTicks (symbolDuration s (s.txBuffer.getLsbD n)) period - 1) holdResponse ++
            gapResponse :: evenCycle s period n)

/-- Each TICK comes at least as long after the one before it as the longest phase lasts. -/
def ticksPaced (s : State) : List Word → Prop
  | [] => True
  | [_] => True
  | a :: b :: rest =>
    s.cfgGap ≤ elapsed b a ∧ s.cfgShort ≤ elapsed b a ∧ s.cfgLong ≤ elapsed b a ∧ ticksPaced s (b :: rest)

/-- The RX.CHECKs and RX.PULSEs of the loop of RECEIVE, one pair for each sample (R164). -/
def receiveOps : List Sample → List Instr
  | [] => []
  | x :: rest => .rxCheck x.checkNow :: .rxPulse x.measured x.pulseNow :: receiveOps rest

end Sys2Proof.Machine
end

