-- ==== Sys2Proof/Certificates/Slice0/Obligations.lean ====
section
/-! DEFINITION. The statements for the provers. Each docstring names the rule it formalises. A statement about an
operation gives its whole next state as an update of the state before it, so its frame is part of it: every
register the update does not name is unchanged, and so are the inputs the agents still present. The block has no
memory (R60). -/

open Sys2Proof Sys2Proof.Machine

-- ======== decoding and the command port ========

/-- Decode and encode agree on every well-formed operation, with every operand (R81 to R85). -/
def Obligations.DecodeOfEncodeIsIdentity : Prop :=
  ∀ i : Instr, i.wellFormed = true → decode (encode i) = .legal i

/-- What the decoder reads: the operation is well formed and spells the same command word; a used operand is the
whole operand word, and an ignored one plays no part (R83, R84, R87). -/
def Obligations.DecodedOperationSpellsItsWordsAndIgnoresTheRest : Prop :=
  ∀ (t : Transaction) (i : Instr), decode t = .legal i →
    i.wellFormed = true ∧ (encode i).cmd = t.cmd ∧
    (t.cmd ≠ 0x00 → t.cmd ≠ 0x02 → i.operandA = t.a) ∧
    (t.cmd = 0x07 ∨ t.cmd = 0x09 → i.operandB = t.b) ∧
    (t.cmd ≠ 0x07 → t.cmd ≠ 0x09 → ∀ b, decode ⟨t.cmd, t.a, b⟩ = .legal i) ∧
    (t.cmd = 0x00 ∨ t.cmd = 0x02 → ∀ a b, decode ⟨t.cmd, a, b⟩ = .legal i)

/-- Exactly 16 command words are legal, and every other word raises ILLEGAL_COMMAND with no other effect (R86,
R225). -/
def Obligations.SixteenLegalWordsAndEveryOtherFaults : Prop :=
  ∀ t : Transaction,
    ((∃ i, decode t = .legal i) ↔
      t.cmd ∈ ([0x00, 0x02, 0x03, 0x04, 0x05, 0x06, 0x07, 0x08, 0x09,
        0x01, 0x11, 0x21, 0x31, 0x41, 0x51, 0x61] : List CommandWord)) ∧
    ((∀ i, decode t ≠ .legal i) → ∀ s : State, s.faulted = false →
      serveTransaction t s =
        .next { s with faulted := true, faultCode := 1, carrierEn := false, response := some ⟨.fault, 1⟩ })

/-- A few command words written out from the encoding table of R81 to R83 decode to the operations they stand
for. -/
def Obligations.WrittenOutWordsDecode : Prop :=
  decode ⟨0b00000000#8, 5, 6⟩ = .legal .nop ∧
  decode ⟨0b01100001#8, 0xFFFFFFFF, 6⟩ = .legal (.cfgWrite 6 0xFFFFFFFF) ∧
  decode ⟨0b00000010#8, 5, 6⟩ = .legal .cfgCommit ∧
  decode ⟨0b00000011#8, 10, 6⟩ = .legal (.arm 10) ∧
  decode ⟨0b00000100#8, 10, 6⟩ = .legal (.tick 10) ∧
  decode ⟨0b00000101#8, 16, 6⟩ = .legal (.query 16) ∧
  decode ⟨0b00000110#8, 24, 6⟩ = .legal (.classify 24) ∧
  decode ⟨0b00000111#8, 100, 7⟩ = .legal (.rxStart 100 7) ∧
  decode ⟨0b00001000#8, 421, 7⟩ = .legal (.rxCheck 421) ∧
  decode ⟨0b00001001#8, 44, 390⟩ = .legal (.rxPulse 44 390) ∧
  decode ⟨0b01110001#8, 0, 0⟩ = .illegal (.unmappedIndex 7) ∧
  decode ⟨0b00010000#8, 0, 0⟩ = .illegal (.nonzeroZ 0 1) ∧
  decode ⟨0b00001010#8, 0, 0⟩ = .illegal (.reservedOpcode 10)

/-- A step runs the decoded operation: it is taken off its agent's queue, its agent is recorded as the one to
answer, and the step is exec of it there. When both agents present an input, the free choice says whose is served,
and the arbitration count advances (R22, R67, R68; that inputs wait in queues is the model's, log entries 1 and
2). -/
def Obligations.StepRunsTheDecodedOperation : Prop :=
  ∀ (s : State) (t : Transaction) (i : Instr), decode t = .legal i → i.wellFormed = true →
    (∀ rest, s.hostQueue = .transaction t :: rest → s.tickQueue = [] →
      step s = exec i { s with hostQueue := rest, issuer := some .host }) ∧
    (∀ rest, s.tickQueue = .transaction t :: rest → s.hostQueue = [] →
      step s = exec i { s with tickQueue := rest, issuer := some .tickSource }) ∧
    (∀ rest x other, s.hostQueue = .transaction t :: rest → s.tickQueue = x :: other →
      step s =
        if Config.tickServedFirst s.arbiter then
          serveInput .tickSource x { s with tickQueue := other, arbiter := s.arbiter + 1 }
        else exec i { s with hostQueue := rest, arbiter := s.arbiter + 1, issuer := some .host }) ∧
    (∀ rest x other, s.tickQueue = .transaction t :: rest → s.hostQueue = x :: other →
      step s =
        if Config.tickServedFirst s.arbiter then
          exec i { s with tickQueue := rest, arbiter := s.arbiter + 1, issuer := some .tickSource }
        else serveInput .host x { s with hostQueue := other, arbiter := s.arbiter + 1 })

/-- Operations of one agent take effect in the order it issued them: a step takes at most one input, and that
from the head of one agent's queue; with nothing presented the block holds its state (R69, R238). The queues, and
that a step with nothing presented clears the response and its agent, are the model's choices (log entries 1, 4 and
5). -/
def Obligations.EachStepTakesTheOldestInputOfOneAgent : Prop :=
  ∀ s t : State, step s = .next t →
    (s.hostQueue = [] ∧ s.tickQueue = [] ∧ t = { s with response := none, issuer := none }) ∨
    (∃ x, s.hostQueue = x :: t.hostQueue ∧ t.tickQueue = s.tickQueue) ∨
    (∃ x, s.tickQueue = x :: t.tickQueue ∧ t.hostQueue = s.hostQueue)

/-- Every operation produces exactly one response, and TICK answers with a carrier command on every call, also when
the block is faulted (R11). That every step, the idle one and the one that takes the reset input among them, has a
next state is the model's reading (log entries 3, 5 and 15). -/
def Obligations.EveryOperationGetsExactlyOneResponse : Prop :=
  (∀ (t : Transaction) (s : State), ∃ u r, serveTransaction t s = .next u ∧ u.response = some r) ∧
  (∀ (is : List Instr) (s : State), (responsesOf is s).length = is.length) ∧
  (∀ s : State, ∃ t, step s = .next t) ∧
  (∀ (now : Word) (s t : State), exec (.tick now) s = .next t →
    ∃ st data, t.response = some ⟨st, data⟩ ∧ (data.extractLsb' 0 3).toNat ≤ 4)

-- ======== control ========

/-- NOP answers OK and changes nothing; a faulted block answers FAULT with its code (R210). -/
def Obligations.NopAnswersAndChangesNothing : Prop :=
  ∀ s : State,
    (s.faulted = false → exec .nop s = .next { s with response := some ⟨.ok, 0⟩ }) ∧
    (s.faulted = true →
      exec .nop s = .next { s with response := some ⟨.fault, s.faultCode.setWidth 32⟩ })

/-- QUERY reads the selector map in every state and changes nothing: 0 is STATUS, 1 to 16 are the registers,
zero-extended, and every other selector reads 0 (R41). -/
def Obligations.QueryReadsTheSelectorMap : Prop :=
  ∀ s : State,
    (∀ a v, (a, v) ∈
        ([(0, statusWord s), (1, s.cfgStart), (2, s.cfgShort), (3, s.cfgLong), (4, s.cfgGap), (5, s.cfgIdle),
          (6, s.cfgTol), (7, s.cfgCtrl), (8, s.txBuffer), (9, s.txRemaining.setWidth 32), (10, s.txLastTime),
          (11, s.rxPacket), (12, s.rxBits.setWidth 32), (13, s.rxStartTime), (14, s.rxTimeout),
          (15, s.rxLastAccept), (16, s.faultCode.setWidth 32)] : List (Word × Word)) →
      exec (.query a) s = .next { s with response := some ⟨.ok, v⟩ }) ∧
    (∀ a : Word, 17 ≤ a.toNat → exec (.query a) s = .next { s with response := some ⟨.ok, 0⟩ })

/-- The STATUS word, which QUERY reads at selector 0, and its layout (R39). -/
def Obligations.StatusWordLaysOutTheRegisters : Prop :=
  ∀ s : State,
    exec (.query 0) s = .next { s with response := some ⟨.ok, statusWord s⟩ } ∧
    (statusWord s).getLsbD 0 = s.txArmed ∧
    (statusWord s).getLsbD 1 = s.txInGap ∧
    (statusWord s).getLsbD 2 = s.configValid ∧
    ((statusWord s).extractLsb' 3 2 =
      match s.rxState with
      | .idle => 0
      | .head => 1
      | .wait => 2
      | .unused => 3) ∧
    (statusWord s).getLsbD 5 = s.faulted ∧
    (statusWord s).getLsbD 6 = s.carrierEn ∧
    (statusWord s).getLsbD 7 = false ∧
    (statusWord s).extractLsb' 8 6 = s.txRemaining ∧
    (statusWord s).extractLsb' 14 2 = 0 ∧
    (statusWord s).extractLsb' 16 6 = s.rxBits ∧
    (statusWord s).extractLsb' 22 2 = 0 ∧
    (statusWord s).extractLsb' 24 3 = s.faultCode ∧
    (statusWord s).extractLsb' 27 5 = 0

/-- Every register is readable through QUERY: two states that answer every selector alike have the same 22
registers (R43). -/
def Obligations.QueryReadsEveryRegister : Prop :=
  ∀ s t : State, (∀ a : Word, readSelector a s = readSelector a t) →
    t = { s with
      hostQueue := t.hostQueue
      tickQueue := t.tickQueue
      arbiter := t.arbiter
      response := t.response
      issuer := t.issuer }

/-- No operation's result depends on anything but the registers and its operands: the model's own fields pass
through it, but for the response it gives (R43). -/
def Obligations.OperationsDependOnTheRegistersAlone : Prop :=
  ∀ (i : Instr) (s t : State) (h q : List Input) (n : Nat) (r : Option Response) (g : Option Agent),
    exec i s = .next t →
    exec i { s with hostQueue := h, tickQueue := q, arbiter := n, response := r, issuer := g } =
      .next { t with hostQueue := h, tickQueue := q, arbiter := n, issuer := g }

-- ======== configuration ========

/-- CFG.WRITE before a commit writes the one register its index names, CFG_CTRL under its mask, and nothing else;
an index of 7 to 15 raises ILLEGAL_COMMAND (R24, R85, R111). -/
def Obligations.CfgWriteSetsOneRegister : Prop :=
  ∀ (v : Word) (s : State), s.faulted = false →
    (s.configValid = false →
      exec (.cfgWrite 0 v) s = .next { s with cfgStart := v, response := some ⟨.ok, 0⟩ } ∧
      exec (.cfgWrite 1 v) s = .next { s with cfgShort := v, response := some ⟨.ok, 0⟩ } ∧
      exec (.cfgWrite 2 v) s = .next { s with cfgLong := v, response := some ⟨.ok, 0⟩ } ∧
      exec (.cfgWrite 3 v) s = .next { s with cfgGap := v, response := some ⟨.ok, 0⟩ } ∧
      exec (.cfgWrite 4 v) s = .next { s with cfgIdle := v, response := some ⟨.ok, 0⟩ } ∧
      exec (.cfgWrite 5 v) s = .next { s with cfgTol := v, response := some ⟨.ok, 0⟩ } ∧
      exec (.cfgWrite 6 v) s =
        .next { s with cfgCtrl := v &&& 0x0000033F, response := some ⟨.ok, 0⟩ }) ∧
    (∀ idx : BitVec 4, 7 ≤ idx.toNat →
      exec (.cfgWrite idx v) s =
        .next { s with faulted := true, faultCode := 1, carrierEn := false, response := some ⟨.fault, 1⟩ })

/-- CFG.COMMIT validates the configuration and makes it immutable, or rejects it with no state change (R112). -/
def Obligations.CfgCommitValidatesTheConfiguration : Prop :=
  ∀ s : State, s.faulted = false → s.configValid = false →
    (configOk s = true →
      exec .cfgCommit s = .next { s with configValid := true, response := some ⟨.ok, 0⟩ }) ∧
    (configOk s = false →
      exec .cfgCommit s = .next { s with response := some ⟨.invalidConfiguration, 0⟩ })

/-- The configuration is valid exactly when `packet_bits` is 1 to 32 and no two of short, long, gap, and start when
it is not 0, differ by at most twice the tolerance, in unbounded integers; nothing else is validated (R113, R114,
R116, R117). -/
def Obligations.ValidConfigurationsAreExactlyTheseOnes : Prop :=
  ∀ s : State, configOk s = true ↔
    (1 ≤ (s.cfgCtrl.extractLsb' 0 6).toNat ∧ (s.cfgCtrl.extractLsb' 0 6).toNat ≤ 32) ∧
    2 * (s.cfgTol.toNat : Int) < |(s.cfgShort.toNat : Int) - s.cfgLong.toNat| ∧
    2 * (s.cfgTol.toNat : Int) < |(s.cfgShort.toNat : Int) - s.cfgGap.toNat| ∧
    2 * (s.cfgTol.toNat : Int) < |(s.cfgLong.toNat : Int) - s.cfgGap.toNat| ∧
    (s.cfgStart ≠ 0 →
      2 * (s.cfgTol.toNat : Int) < |(s.cfgShort.toNat : Int) - s.cfgStart.toNat| ∧
      2 * (s.cfgTol.toNat : Int) < |(s.cfgLong.toNat : Int) - s.cfgStart.toNat| ∧
      2 * (s.cfgTol.toNat : Int) < |(s.cfgGap.toNat : Int) - s.cfgStart.toNat|)

/-- Two references overlap when their closed windows share a point; two equal ones always do; and a shared point,
when there is one, includes the non-negative value `min(a, b) + tol` (R115). -/
def Obligations.OverlapMeansTheWindowsShareAPoint : Prop :=
  ∀ tol a b : Word,
    (windowsOverlap tol a b = true ↔
      ∃ x : Int, (a.toNat : Int) - tol.toNat ≤ x ∧ x ≤ (a.toNat : Int) + tol.toNat ∧
        (b.toNat : Int) - tol.toNat ≤ x ∧ x ≤ (b.toNat : Int) + tol.toNat) ∧
    windowsOverlap tol a a = true ∧
    (windowsOverlap tol a b = true →
      let x : Int := min (a.toNat : Int) b.toNat + tol.toNat
      0 ≤ x ∧ (a.toNat : Int) - tol.toNat ≤ x ∧ x ≤ (a.toNat : Int) + tol.toNat ∧
        (b.toNat : Int) - tol.toNat ≤ x ∧ x ≤ (b.toNat : Int) + tol.toNat)

/-- Once CONFIG_VALID is 1 no operation and no command word changes the configuration, and CFG.WRITE and CFG.COMMIT
return CONFIG_LOCKED (R118). -/
def Obligations.CommittedConfigurationIsImmutable : Prop :=
  ∀ s : State, s.configValid = true →
    (∀ (tr : Transaction) (t : State), serveTransaction tr s = .next t →
      t.cfgStart = s.cfgStart ∧ t.cfgShort = s.cfgShort ∧ t.cfgLong = s.cfgLong ∧ t.cfgGap = s.cfgGap ∧
      t.cfgIdle = s.cfgIdle ∧ t.cfgTol = s.cfgTol ∧ t.cfgCtrl = s.cfgCtrl ∧ t.configValid = true) ∧
    (s.faulted = false →
      (∀ (idx : BitVec 4) (v : Word), idx.toNat ≤ 6 →
        exec (.cfgWrite idx v) s = .next { s with response := some ⟨.configLocked, 0⟩ }) ∧
      exec .cfgCommit s = .next { s with response := some ⟨.configLocked, 0⟩ })

/-- The boot sequence: after the seven writes and a commit of a valid configuration the block is configured, and
nothing else has changed (R93, R252). -/
def Obligations.BootSequenceConfiguresTheBlock : Prop :=
  ∀ (start short long gap idle tol ctrl : Word) (s : State), s.faulted = false → s.configValid = false →
    configOk
        { s with
          cfgStart := start, cfgShort := short, cfgLong := long, cfgGap := gap, cfgTol := tol,
          cfgCtrl := ctrl &&& 0x33F } = true →
    runInstrs (cfgLoad start short long gap idle tol ctrl) s =
      .next { s with
        cfgStart := start
        cfgShort := short
        cfgLong := long
        cfgGap := gap
        cfgIdle := idle
        cfgTol := tol
        cfgCtrl := ctrl &&& 0x33F
        configValid := true
        response := some ⟨.ok, 0⟩ }

-- ======== classifier ========

/-- CLASSIFY answers the code of the first window, START (unless `cfg.start` is 0), ZERO, ONE, that holds the
duration, both bounds inclusive and in unbounded integers, and writes no state (R130, R131, R137). -/
def Obligations.ClassifyReportsTheFirstWindow : Prop :=
  ∀ (d : Word) (s : State), s.faulted = false → s.configValid = true →
    let within := fun ref : Word =>
      (ref.toNat : Int) - s.cfgTol.toNat ≤ (d.toNat : Int) ∧ (d.toNat : Int) ≤ (ref.toNat : Int) + s.cfgTol.toNat
    let answers := fun v : Word => exec (.classify d) s = .next { s with response := some ⟨.ok, v⟩ }
    (s.cfgStart ≠ 0 ∧ within s.cfgStart → answers 1) ∧
    (¬(s.cfgStart ≠ 0 ∧ within s.cfgStart) ∧ within s.cfgShort → answers 2) ∧
    (¬(s.cfgStart ≠ 0 ∧ within s.cfgStart) ∧ ¬within s.cfgShort ∧ within s.cfgLong → answers 3) ∧
    (¬(s.cfgStart ≠ 0 ∧ within s.cfgStart) ∧ ¬within s.cfgShort ∧ ¬within s.cfgLong → answers 0)

/-- Under a valid configuration every duration within the window of a reference, the boundaries included, gets that
reference's symbol; the classification depends only on the duration and the configuration; and no operation of a
configured block changes it (R134, R138). -/
def Obligations.EveryWindowHasItsSymbol : Prop :=
  (∀ (d : Word) (s : State), configOk s = true →
    (s.cfgStart ≠ 0 → s.cfgStart.toNat ≤ d.toNat + s.cfgTol.toNat →
      d.toNat ≤ s.cfgStart.toNat + s.cfgTol.toNat → classify d s = .start) ∧
    (s.cfgShort.toNat ≤ d.toNat + s.cfgTol.toNat →
      d.toNat ≤ s.cfgShort.toNat + s.cfgTol.toNat → classify d s = .zero) ∧
    (s.cfgLong.toNat ≤ d.toNat + s.cfgTol.toNat →
      d.toNat ≤ s.cfgLong.toNat + s.cfgTol.toNat → classify d s = .one)) ∧
  (∀ (d : Word) (s t : State), t.cfgStart = s.cfgStart → t.cfgShort = s.cfgShort → t.cfgLong = s.cfgLong →
    t.cfgTol = s.cfgTol → classify d t = classify d s) ∧
  (∀ (d : Word) (i : Instr) (s t : State), s.configValid = true → exec i s = .next t →
    classify d t = classify d s)

/-- There is no gap symbol, and a pulse whose duration lies in the window of `cfg.gap` is UNRECOGNIZED under a valid
configuration (R135). -/
def Obligations.GapPulseIsUnrecognized : Prop :=
  (∀ sym : Symbol, sym = .unrecognized ∨ sym = .start ∨ sym = .zero ∨ sym = .one) ∧
  (∀ (d : Word) (s : State), configOk s = true → s.cfgGap.toNat ≤ d.toNat + s.cfgTol.toNat →
    d.toNat ≤ s.cfgGap.toNat + s.cfgTol.toNat → classify d s = .unrecognized)

/-- The measurement-timeout value 0 is UNRECOGNIZED unless a window's lower bound is at or below 0; and with
`cfg.start` 0 the START symbol is never returned (R132, R136). -/
def Obligations.ZeroDurationAndDisabledStart : Prop :=
  ∀ s : State,
    (classify 0 s = .unrecognized ↔
      ¬(s.cfgShort ≤ s.cfgTol ∨ s.cfgLong ≤ s.cfgTol ∨ (s.cfgStart ≠ 0 ∧ s.cfgStart ≤ s.cfgTol))) ∧
    (s.cfgStart = 0 → ∀ d : Word, classify d s ≠ .start)

-- ======== receive ========

/-- RX.START clears the accumulator, records the timeout and both times, and goes to the head of the loop (R152). -/
def Obligations.RxStartBeginsAReceive : Prop :=
  ∀ (timeout now : Word) (s : State), s.faulted = false → s.configValid = true → s.txArmed = false →
    s.rxState = .idle →
    exec (.rxStart timeout now) s =
      .next { s with
        rxPacket := 0
        rxBits := 0
        rxStartTime := now
        rxTimeout := timeout
        rxLastAccept := now
        rxState := .head
        response := some ⟨.ok, 0⟩ }

/-- RX.CHECK completes before it tests the deadline: it answers RX_DONE_OK with the packet, else RX_TIMEOUT strictly
past the timeout (never when the timeout is 0), else RX_CONTINUE; only RX_STATE changes (R153, R154, R155). -/
def Obligations.RxCheckDecidesTheLoop : Prop :=
  ∀ (now : Word) (s : State), s.faulted = false → s.configValid = true → s.rxState = .head →
    let complete := (s.hasChecksum = false ∨ Config.checksumValid s.rxPacket = true) ∧ s.rxBits = s.packetBits
    let expired := s.rxTimeout ≠ 0 ∧ s.rxTimeout.toNat < (now - s.rxStartTime).toNat
    (complete → exec (.rxCheck now) s =
      .next { s with rxState := .idle, response := some ⟨.rxDoneOk, s.rxPacket⟩ }) ∧
    (¬complete ∧ expired → exec (.rxCheck now) s =
      .next { s with rxState := .idle, response := some ⟨.rxTimeout, 0⟩ }) ∧
    (¬complete ∧ ¬expired → exec (.rxCheck now) s =
      .next { s with rxState := .wait, response := some ⟨.rxContinue, 0⟩ })

/-- RX.PULSE: START clears the accumulator; ZERO and ONE shift a bit in at bit 0 under the mask and count it,
saturating at 63; UNRECOGNIZED clears the accumulator strictly past the idle gap and is else ignored (R156 to
R159). -/
def Obligations.RxPulseUpdatesTheAccumulator : Prop :=
  ∀ (d now : Word) (s : State), s.faulted = false → s.configValid = true → s.rxState = .wait →
    let shifted := fun bit : Nat =>
      BitVec.ofNat 32 ((2 * s.rxPacket.toNat + bit) % 2 ^ (s.cfgCtrl.extractLsb' 0 6).toNat)
    (classify d s = .start → exec (.rxPulse d now) s =
      .next { s with
        rxPacket := 0, rxBits := 0, rxLastAccept := now, rxState := .head, response := some ⟨.ok, 1⟩ }) ∧
    (classify d s = .zero → exec (.rxPulse d now) s =
      .next { s with
        rxPacket := shifted 0, rxBits := BitVec.ofNat 6 (min (s.rxBits.toNat + 1) 63), rxLastAccept := now,
        rxState := .head, response := some ⟨.ok, 2⟩ }) ∧
    (classify d s = .one → exec (.rxPulse d now) s =
      .next { s with
        rxPacket := shifted 1, rxBits := BitVec.ofNat 6 (min (s.rxBits.toNat + 1) 63), rxLastAccept := now,
        rxState := .head, response := some ⟨.ok, 3⟩ }) ∧
    (classify d s = .unrecognized → s.cfgIdle.toNat < (now - s.rxLastAccept).toNat →
      exec (.rxPulse d now) s =
        .next { s with rxPacket := 0, rxBits := 0, rxState := .head, response := some ⟨.ok, 4⟩ }) ∧
    (classify d s = .unrecognized → (now - s.rxLastAccept).toNat ≤ s.cfgIdle.toNat →
      exec (.rxPulse d now) s = .next { s with rxState := .head, response := some ⟨.ok, 0⟩ })

/-- RX_STATE moves only along the loop: RX.START from idle to head, RX.CHECK from head to wait or idle, RX.PULSE
from wait to head; and a receive operation in any other state raises RX_SEQUENCE_ERROR (R150, R228). -/
def Obligations.ReceiveStateMovesOnlyAlongTheLoop : Prop :=
  (∀ (i : Instr) (s t : State), exec i s = .next t → t.rxState ≠ s.rxState →
    (s.rxState = .idle ∧ t.rxState = .head ∧ ∃ a b, i = .rxStart a b) ∨
    (s.rxState = .head ∧ (t.rxState = .wait ∨ t.rxState = .idle) ∧ ∃ a, i = .rxCheck a) ∨
    (s.rxState = .wait ∧ t.rxState = .head ∧ ∃ a b, i = .rxPulse a b)) ∧
  (∀ (a b : Word) (s : State), s.faulted = false → s.configValid = true →
    let sequenceError : Host.Outcome State Fault Refusal :=
      .next { s with faulted := true, faultCode := 4, carrierEn := false, response := some ⟨.fault, 4⟩ }
    (s.txArmed = false → s.rxState ≠ .idle → exec (.rxStart a b) s = sequenceError) ∧
    (s.rxState ≠ .head → exec (.rxCheck a) s = sequenceError) ∧
    (s.rxState ≠ .wait → exec (.rxPulse a b) s = sequenceError))

/-- A receive of exactly `packet_bits` ZERO and ONE pulses that does not expire, without a checksum, completes with
the packet whose most significant bit is the first bit received (R63, R158). -/
def Obligations.ReceivedBitsAreMostSignificantFirst : Prop :=
  ∀ (bits : List Bool) (samples : List Sample) (timeout now last : Word) (s : State),
    s.faulted = false → s.configValid = true → s.txArmed = false → s.rxState = .idle → s.hasChecksum = false →
    1 ≤ s.packetBits.toNat → s.packetBits.toNat ≤ 32 → bits.length = s.packetBits.toNat →
    List.Forall₂ (fun (x : Sample) (b : Bool) => classify x.measured s = if b then .one else .zero)
      samples bits →
    (timeout = 0 ∨ ∀ x ∈ samples, elapsed x.checkNow now ≤ timeout) →
    ∃ t u p, runInstrs (.rxStart timeout now :: receiveOps samples) s = .next t ∧
      exec (.rxCheck last) t = .next u ∧ u.rxState = .idle ∧ u.response = some ⟨.rxDoneOk, p⟩ ∧
      (∀ (k : Nat) (b : Bool), bits[k]? = some b → p.getLsbD (s.packetBits.toNat - 1 - k) = b) ∧
      (∀ j : Nat, s.packetBits.toNat ≤ j → p.getLsbD j = false)

/-- The host procedure RECEIVE over the block's operations gives, step for step, the result of the source's receive
loop, whose count of bits has no bound (R35, R154, R164), for every checksum predicate. The list of samples, and the
result `waiting` when it runs out, are the model's choice (log entry 16). -/
def Obligations.ReceiveProcedureIsTheSourceLoop : Prop :=
  ∀ (timeout now : Word) (samples : List Sample) (s : State),
    s.faulted = false → s.configValid = true → s.txArmed = false → s.rxState = .idle →
    1 ≤ s.packetBits.toNat → s.packetBits.toNat ≤ 32 →
    (receive timeout now samples s).1 =
      sourceLoop s timeout now samples { packet := 0, bitsSeen := 0, lastAccepted := now }

/-- A receive with timeout 0 that is fed no recognized pulse never ends (R163, R266): however many samples it is
given, it is still `waiting` when they run out, which is the model's way to say so (log entry 16). -/
def Obligations.UnboundedReceiveNeverEnds : Prop :=
  ∀ (now : Word) (samples : List Sample) (s : State),
    s.faulted = false → s.configValid = true → s.txArmed = false → s.rxState = .idle →
    1 ≤ s.packetBits.toNat → (∀ x ∈ samples, classify x.measured s = .unrecognized) →
    (receive 0 now samples s).1 = .waiting

/-- A RECEIVE whose RX.START faults, or that begins in a faulted block, loops on for ever: its loop returns only on
RX_DONE_OK and RX_TIMEOUT, which a faulted block never answers (R164, R223, R226 to R228). `waiting` when the samples
run out is the model's way to say so (log entry 16). -/
def Obligations.FaultedReceiveLoopsOn : Prop :=
  ∀ (timeout now : Word) (samples : List Sample) (s : State),
    (s.faulted = true ∨ s.configValid = false ∨ s.txArmed = true ∨ s.rxState ≠ .idle) →
    (receive timeout now samples s).1 = .waiting ∧ (receive timeout now samples s).2.faulted = true

/-- Past `packet_bits` a receive does not complete: one more ZERO or ONE after a full count counts one too many;
while the count is too high RX.CHECK never answers RX_DONE_OK and keeps the count, and RX.PULSE keeps it too high
unless it reports a START or an idle reset, which clears it (R161). -/
def Obligations.OvershotReceiveCompletesOnlyAfterAReset : Prop :=
  ∀ s : State, s.packetBits.toNat ≤ 32 →
    (∀ (d now : Word) (t : State), s.faulted = false → s.rxBits = s.packetBits →
      exec (.rxPulse d now) s = .next t → t.response = some ⟨.ok, 2⟩ ∨ t.response = some ⟨.ok, 3⟩ →
      t.rxBits.toNat = s.packetBits.toNat + 1) ∧
    (∀ (now : Word) (t : State), s.packetBits.toNat < s.rxBits.toNat → exec (.rxCheck now) s = .next t →
      t.rxBits = s.rxBits ∧ ∀ p, t.response ≠ some ⟨.rxDoneOk, p⟩) ∧
    (∀ (d now : Word) (t : State), s.packetBits.toNat < s.rxBits.toNat → exec (.rxPulse d now) s = .next t →
      t.packetBits.toNat < t.rxBits.toNat ∨
      (t.rxBits = 0 ∧ (t.response = some ⟨.ok, 1⟩ ∨ t.response = some ⟨.ok, 4⟩)))

-- ======== transmit ========

/-- ARM of a block that is configured, not receiving and not armed snapshots the whole packet and arms; ARM while
armed is rejected with no state change (R71, R181). -/
def Obligations.ArmTakesAPacketOnlyWhenNotArmed : Prop :=
  ∀ (packet : Word) (s : State), s.faulted = false → s.configValid = true → s.rxState = .idle →
    (s.txArmed = false →
      exec (.arm packet) s =
        .next { s with
          txBuffer := packet
          txRemaining := s.cfgCtrl.extractLsb' 0 6
          txInGap := false
          txArmed := true
          response := some ⟨.ok, 0⟩ }) ∧
    (s.txArmed = true → exec (.arm packet) s = .next { s with response := some ⟨.rearmRejected, 0⟩ })

/-- A TICK when not armed turns the carrier off, emits OFF with done = 0 and changes nothing else, however often it
is repeated (R188). -/
def Obligations.TickWhenNotArmedIsIdempotent : Prop :=
  ∀ (now later : Word) (s : State), s.faulted = false → s.txArmed = false →
    exec (.tick now) s = .next { s with carrierEn := false, response := some ⟨.ok, 1⟩ } ∧
    exec (.tick later) { s with carrierEn := false, response := some ⟨.ok, 1⟩ } =
      .next { s with carrierEn := false, response := some ⟨.ok, 1⟩ }

/-- A TICK that finds no bits left completes the transmission, whatever time has passed (R187). -/
def Obligations.TickWithNoBitsLeftCompletes : Prop :=
  ∀ (now : Word) (s : State), s.faulted = false → s.txArmed = true → s.txRemaining = 0 →
    exec (.tick now) s = .next { s with txArmed := false, carrierEn := false, response := some ⟨.ok, 9⟩ }

/-- A TICK within the current phase emits HOLD and changes nothing: the phase is `cfg.gap` long in a gap, and in a
mark `cfg.long` or `cfg.short` by the bit that TX_REMAINING indexes (R183, and step 3 of R182). -/
def Obligations.TickWithinAPhaseHolds : Prop :=
  ∀ (now : Word) (s : State), s.faulted = false → s.txArmed = true → s.txRemaining ≠ 0 →
    ((s.txInGap = true ∧ (now - s.txLastTime).toNat < s.cfgGap.toNat) ∨
     (s.txInGap = false ∧ s.txRemaining ≠ s.packetBits ∧ s.txBuffer.getLsbD s.txRemaining.toNat = true ∧
      (now - s.txLastTime).toNat < s.cfgLong.toNat) ∨
     (s.txInGap = false ∧ s.txRemaining ≠ s.packetBits ∧ s.txBuffer.getLsbD s.txRemaining.toNat = false ∧
      (now - s.txLastTime).toNat < s.cfgShort.toNat)) →
    exec (.tick now) s = .next { s with response := some ⟨.ok, 0⟩ }

/-- A TICK past the end of a mark, and the first TICK after ARM whatever TX_LAST_TIME holds, enters the gap (R184,
R185). -/
def Obligations.TickPastAMarkEntersTheGap : Prop :=
  ∀ (now : Word) (s : State), s.faulted = false → s.txArmed = true → s.txRemaining ≠ 0 → s.txInGap = false →
    (s.txRemaining = s.packetBits ∨
     (s.txBuffer.getLsbD s.txRemaining.toNat = true ∧ s.cfgLong.toNat ≤ (now - s.txLastTime).toNat) ∨
     (s.txBuffer.getLsbD s.txRemaining.toNat = false ∧ s.cfgShort.toNat ≤ (now - s.txLastTime).toNat)) →
    exec (.tick now) s =
      .next { s with txInGap := true, txLastTime := now, carrierEn := false, response := some ⟨.ok, 2⟩ }

/-- A TICK past the end of a gap marks bit `TX_REMAINING - 1` and counts it down (R186). -/
def Obligations.TickPastAGapEntersTheMark : Prop :=
  ∀ (now : Word) (s : State), s.faulted = false → s.txArmed = true → s.txRemaining ≠ 0 → s.txInGap = true →
    s.cfgGap.toNat ≤ (now - s.txLastTime).toNat →
    exec (.tick now) s =
      .next { s with
        txInGap := false
        txLastTime := now
        carrierEn := true
        txRemaining := s.txRemaining - 1
        response := some ⟨.ok, if s.txBuffer.getLsbD (s.txRemaining.toNat - 1) then 4 else 3⟩ }

/-- CARRIER_EN follows the emitted command: OFF and GAP drive it to 0, the marks to 1, HOLD leaves it; and the done
bit is 1 exactly at the TICK that clears TX_ARMED (R90, R190, R191). Which call each command is to the Carrier
Driver, a repeated GAP's among them, is the model's reading (log entry 18). -/
def Obligations.CarrierFollowsTheEmittedCommand : Prop :=
  ∀ (now : Word) (s t : State), s.faulted = false → exec (.tick now) s = .next t →
    ∃ (done : Bool) (c : CarrierCommand), t.response = some ⟨.ok, tickData done c⟩ ∧
      (c = .off ∨ c = .gap → t.carrierEn = false ∧ c.driverCall = some .carrierOff) ∧
      (c = .markZero ∨ c = .markOne → t.carrierEn = true ∧ c.driverCall = some .carrierOn) ∧
      (c = .hold → t.carrierEn = s.carrierEn ∧ c.driverCall = none) ∧
      (done = true ↔ s.txArmed = true ∧ t.txArmed = false)

/-- The outputs the block drives follow its registers: `carrier_en` is CARRIER_EN, `line_level` is CFG_CTRL[9],
`rx_listen` is 1 exactly in RX_WAIT, and `max_wait` is PULSE_MAX_WAIT (R42). -/
def Obligations.DrivenOutputsFollowTheRegisters : Prop :=
  ∀ s : State,
    s.outputs.carrierEn = s.carrierEn ∧ s.outputs.lineLevel = s.cfgCtrl.getLsbD 9 ∧
    (s.outputs.rxListen = true ↔ s.rxState = .wait) ∧ s.outputs.maxWait = Config.pulseMaxWait

/-- No operation but ARM and TICK writes a register of the transmitter, except fault entry, which drives CARRIER_EN
to 0 (R180). -/
def Obligations.OnlyArmAndTickWriteTheTransmitter : Prop :=
  ∀ (i : Instr) (s t : State), (∀ p, i ≠ .arm p) → (∀ now, i ≠ .tick now) → exec i s = .next t →
    t.txArmed = s.txArmed ∧ t.txInGap = s.txInGap ∧ t.txRemaining = s.txRemaining ∧ t.txBuffer = s.txBuffer ∧
    t.txLastTime = s.txLastTime ∧
    (t.carrierEn = s.carrierEn ∨ (s.faulted = false ∧ t.faulted = true ∧ t.carrierEn = false))

/-- A transmission cannot be cancelled or replaced once armed: no operation clears TX_ARMED except the completing
TICK, no operation changes TX_BUFFER while armed, and ARM while armed is rejected (R193, R264). -/
def Obligations.OnlyTheCompletingTickDisarms : Prop :=
  ∀ (i : Instr) (s t : State), s.txArmed = true → exec i s = .next t →
    t.txBuffer = s.txBuffer ∧
    (t.txArmed = false → (∃ now, i = .tick now) ∧ s.txRemaining = 0 ∧ t.response = some ⟨.ok, 9⟩) ∧
    (∀ p, i = .arm p → t.response ≠ some ⟨.ok, 0⟩ ∧
      (s.faulted = false → s.configValid = true → s.rxState = .idle →
        t = { s with response := some ⟨.rearmRejected, 0⟩ }))

/-- From an accepted ARM on, whatever the times of the TICKs, the commands emitted, HOLDs left out, follow the armed
cycle: for each bit from `packet_bits - 1` down to 0 a GAP and that bit's mark, then OFF with done = 1, then OFFs;
and TX_REMAINING counts down by one at each mark (R186, R192). -/
def Obligations.ArmedCycleEmitsEveryBitOnce : Prop :=
  ∀ (times : List Word) (s : State), s.faulted = false → s.txArmed = true → s.txInGap = false →
    s.txRemaining = s.packetBits → 1 ≤ s.packetBits.toNat →
    let emitted := (responsesOf (times.map Instr.tick) s).filter notHold
    (emitted <+: cycleResponses s.txBuffer s.packetBits.toNat ∨
      ∃ n, emitted = cycleResponses s.txBuffer s.packetBits.toNat ++ List.replicate n offResponse) ∧
    (∃ t, runInstrs (times.map Instr.tick) s = .next t ∧
      t.txRemaining.toNat + (emitted.filter isMark).length = s.packetBits.toNat ∧
      (t.txArmed = true → emitted <+: cycleResponses s.txBuffer s.packetBits.toNat ∧
        doneResponse ∉ emitted))

/-- A transmission ends: TICKs each paced at least the longest phase apart complete an armed cycle in exactly
`2 * packet_bits + 1` TICKs, with no HOLD (R192, R253). -/
def Obligations.PacedTicksCompleteTheCycle : Prop :=
  ∀ (times : List Word) (s : State), s.faulted = false → s.txArmed = true → s.txInGap = false →
    s.txRemaining = s.packetBits → 1 ≤ s.packetBits.toNat → ticksPaced s times →
    times.length = 2 * s.packetBits.toNat + 1 →
    responsesOf (times.map Instr.tick) s = cycleResponses s.txBuffer s.packetBits.toNat ∧
    ∃ t, runInstrs (times.map Instr.tick) s = .next t ∧ t.txArmed = false ∧ t.carrierEn = false ∧
      t.txRemaining = 0

/-- The waveform of one cycle under TICKs spaced evenly P apart: a gap lasts `max(1, ceil(cfg.gap / P))` TICKs, the
mark of every bit but bit 0 `max(1, ceil(dur / P))`, and the mark of bit 0 one TICK, while no phase reaches the
timestamp's wrap (R183, R195). -/
def Obligations.EvenTicksGiveTheWaveform : Prop :=
  ∀ (first period : Word) (s : State), s.faulted = false → s.txArmed = true → s.txInGap = false →
    s.txRemaining = s.packetBits → 1 ≤ s.packetBits.toNat → period ≠ 0 →
    phaseTicks s.cfgGap period * period.toNat < 2 ^ 32 →
    phaseTicks s.cfgShort period * period.toNat < 2 ^ 32 →
    phaseTicks s.cfgLong period * period.toNat < 2 ^ 32 →
    responsesOf (evenTicks first period (1 + (evenCycle s period s.packetBits.toNat).length)) s =
      gapResponse :: evenCycle s period s.packetBits.toNat

/-- Only the bits of TX_BUFFER below `packet_bits` are ever sent: TICK does the same for every value of the bits
above (R29, I18). -/
def Obligations.HighPacketBitsAreNeverSent : Prop :=
  ∀ (now other : Word) (s t : State), s.txRemaining.toNat ≤ s.packetBits.toNat →
    (∀ k, k < s.packetBits.toNat → other.getLsbD k = s.txBuffer.getLsbD k) →
    exec (.tick now) s = .next t →
    exec (.tick now) { s with txBuffer := other } = .next { t with txBuffer := other }

/-- The polarity bit ACTIVE_LEVEL is read by no operation but QUERY: with it flipped, every operation but QUERY and
CFG.WRITE does and answers the same (R119). -/
def Obligations.PolarityChangesNoOperation : Prop :=
  ∀ (i : Instr) (s t : State), (∀ a, i ≠ .query a) → (∀ idx v, i ≠ .cfgWrite idx v) → exec i s = .next t →
    exec i { s with cfgCtrl := s.cfgCtrl ^^^ 0x200 } = .next { t with cfgCtrl := t.cfgCtrl ^^^ 0x200 }

/-- In every state that meets the invariant the transmitter is in exactly one of the source's states: idle, the
pre-phase, a gap or a mark; and the source's implicit `Done` is the mark of bit 0 (R32, R44). -/
def Obligations.TransmitterIsInOneSourceState : Prop :=
  ∀ s : State, s.Inv →
    ((txIdle s = true ∧ txPrePhase s = false ∧ txArmedGap s = false ∧ txArmedSymbol s = false) ∨
     (txIdle s = false ∧ txPrePhase s = true ∧ txArmedGap s = false ∧ txArmedSymbol s = false) ∨
     (txIdle s = false ∧ txPrePhase s = false ∧ txArmedGap s = true ∧ txArmedSymbol s = false) ∨
     (txIdle s = false ∧ txPrePhase s = false ∧ txArmedGap s = false ∧ txArmedSymbol s = true)) ∧
    (txDone s = true → txArmedSymbol s = true)

-- ======== faults ========

/-- NOT_CONFIGURED is raised by ARM, CLASSIFY, RX.START, RX.CHECK and RX.PULSE whenever CONFIG_VALID is 0, whatever
else is wrong, and no other well-formed operation faults then (R121, R226). -/
def Obligations.UnconfiguredOperationsFault : Prop :=
  ∀ s : State, s.faulted = false → s.configValid = false →
    (∀ i : Instr,
      ((∃ p, i = .arm p) ∨ (∃ d, i = .classify d) ∨ (∃ a b, i = .rxStart a b) ∨ (∃ a, i = .rxCheck a) ∨
        (∃ a b, i = .rxPulse a b)) →
      exec i s =
        .next { s with faulted := true, faultCode := 2, carrierEn := false, response := some ⟨.fault, 2⟩ }) ∧
    (∀ (i : Instr) (t : State), i.wellFormed = true →
      (i = .nop ∨ (∃ idx v, i = .cfgWrite idx v) ∨ i = .cfgCommit ∨ (∃ a, i = .query a) ∨ (∃ a, i = .tick a)) →
      exec i s = .next t → t.faulted = false)

/-- HALF_DUPLEX_VIOLATION is raised by RX.START while armed and by ARM while a receive is in progress, before any
sequence error and before a re-arm rejection (R227, R229). -/
def Obligations.HalfDuplexViolationsFault : Prop :=
  ∀ (a b : Word) (s : State), s.faulted = false → s.configValid = true →
    let violation : Host.Outcome State Fault Refusal :=
      .next { s with faulted := true, faultCode := 3, carrierEn := false, response := some ⟨.fault, 3⟩ }
    (s.txArmed = true → exec (.rxStart a b) s = violation) ∧
    (s.rxState ≠ .idle → exec (.arm a) s = violation)

/-- A fault is precise: an operation or command word that faults has no effect but the fault registers, the carrier
off and the response with its code, one of 1 to 4 (R222). -/
def Obligations.FaultEntryHasNoOtherEffect : Prop :=
  ∀ (tr : Transaction) (s t : State), s.faulted = false → serveTransaction tr s = .next t → t.faulted = true →
    ∃ code : BitVec 3, 1 ≤ code.toNat ∧ code.toNat ≤ 4 ∧
      t = { s with
        faulted := true
        faultCode := code
        carrierEn := false
        response := some ⟨.fault, code.setWidth 32⟩ }

/-- A faulted block: QUERY runs normally; TICK drives the carrier off and answers FAULT with the OFF command; every
other operation, and every illegal word, answers FAULT with the first fault's code and changes nothing (R223). -/
def Obligations.FaultedBlockAnswers : Prop :=
  ∀ (tr : Transaction) (s : State), s.faulted = true →
    (∀ a, decode tr = .legal (.query a) →
      serveTransaction tr s = .next { s with response := some ⟨.ok, readSelector a s⟩ }) ∧
    (∀ now, decode tr = .legal (.tick now) →
      serveTransaction tr s = .next { s with carrierEn := false, response := some ⟨.fault, 1⟩ }) ∧
    ((∀ a, decode tr ≠ .legal (.query a)) → (∀ now, decode tr ≠ .legal (.tick now)) →
      serveTransaction tr s = .next { s with response := some ⟨.fault, s.faultCode.setWidth 32⟩ })

/-- FAULTED and FAULT_CODE are cleared only by reset, and a transmission in flight is abandoned: in a faulted block
every step that does not take the reset input keeps both and advances no transmission (R224, R251). That the reset
input is the head of an agent's queue, and that no response and no agent stand on the port after it, are the model's
choices (log entries 1, 3 and 4). -/
def Obligations.OnlyResetLeavesTheFaultedState : Prop :=
  ∀ s t : State, s.faulted = true → step s = .next t →
    (t.faulted = true ∧ t.faultCode = s.faultCode ∧ t.txArmed = s.txArmed ∧ t.txInGap = s.txInGap ∧
      t.txRemaining = s.txRemaining ∧ t.txLastTime = s.txLastTime ∧ t.rxState = s.rxState) ∨
    ((s.hostQueue = .reset :: t.hostQueue ∨ s.tickQueue = .reset :: t.tickQueue) ∧
      t = { State.reset with hostQueue := t.hostQueue, tickQueue := t.tickQueue, arbiter := t.arbiter })

/-- The statuses REARM_REJECTED, CONFIG_LOCKED, INVALID_CONFIGURATION and RX_TIMEOUT leave FAULTED at 0 and change
no state, apart from RX_TIMEOUT's move of RX_STATE to RX_IDLE (R230). -/
def Obligations.RejectionsChangeNoState : Prop :=
  ∀ (i : Instr) (s t : State) (data : Word), exec i s = .next t →
    (t.response = some ⟨.rearmRejected, data⟩ ∨ t.response = some ⟨.configLocked, data⟩ ∨
        t.response = some ⟨.invalidConfiguration, data⟩ →
      t.faulted = false ∧ t = { s with response := t.response }) ∧
    (t.response = some ⟨.rxTimeout, data⟩ →
      t.faulted = false ∧ t = { s with rxState := .idle, response := t.response })

-- ======== reset, time and invariants ========

/-- After reset every register holds 0 (R45). -/
def Obligations.ResetValuesAreZero : Prop :=
  State.reset.cfgStart = 0 ∧ State.reset.cfgShort = 0 ∧ State.reset.cfgLong = 0 ∧ State.reset.cfgGap = 0 ∧
  State.reset.cfgIdle = 0 ∧ State.reset.cfgTol = 0 ∧ State.reset.cfgCtrl = 0 ∧
  State.reset.configValid = false ∧ State.reset.txArmed = false ∧ State.reset.txInGap = false ∧
  State.reset.txRemaining = 0 ∧ State.reset.txBuffer = 0 ∧ State.reset.txLastTime = 0 ∧
  State.reset.carrierEn = false ∧ State.reset.rxState = .idle ∧ State.reset.rxPacket = 0 ∧
  State.reset.rxBits = 0 ∧ State.reset.rxStartTime = 0 ∧ State.reset.rxTimeout = 0 ∧
  State.reset.rxLastAccept = 0 ∧ State.reset.faulted = false ∧ State.reset.faultCode = 0

/-- A step that takes the reset input sets every register to its reset value, whatever the state before it (R250);
when both agents present an input the free choice says whose is served, and the arbitration count advances (R68).
That the reset input waits in a queue, that what the agents still present and the arbitration count stay, and that no
response is given, are the model's choices (log entries 1 to 4). -/
def Obligations.ResetInputSetsEveryRegister : Prop :=
  (∀ (s : State) (rest : List Input), s.hostQueue = .reset :: rest → s.tickQueue = [] →
    step s = .next { State.reset with hostQueue := rest, tickQueue := [], arbiter := s.arbiter }) ∧
  (∀ (s : State) (rest : List Input), s.tickQueue = .reset :: rest → s.hostQueue = [] →
    step s = .next { State.reset with hostQueue := [], tickQueue := rest, arbiter := s.arbiter }) ∧
  (∀ (s : State) (rest : List Input) (x : Input) (other : List Input),
    s.hostQueue = .reset :: rest → s.tickQueue = x :: other →
    step s =
      if Config.tickServedFirst s.arbiter then
        serveInput .tickSource x { s with tickQueue := other, arbiter := s.arbiter + 1 }
      else .next { State.reset with hostQueue := rest, tickQueue := x :: other, arbiter := s.arbiter + 1 }) ∧
  (∀ (s : State) (rest : List Input) (x : Input) (other : List Input),
    s.tickQueue = .reset :: rest → s.hostQueue = x :: other →
    step s =
      if Config.tickServedFirst s.arbiter then
        .next { State.reset with hostQueue := x :: other, tickQueue := rest, arbiter := s.arbiter + 1 }
      else serveInput .host x { s with hostQueue := other, arbiter := s.arbiter + 1 })

/-- Elapsed time is the true time between two moments of the time base less than 2^32 apart, across its wrap, and a
moment that goes back by `d` is seen as an elapsed time of `2^32 - d` (R9, R234, R262). -/
def Obligations.ElapsedTimeIsTrueBelowTheWrap : Prop :=
  ∀ a d : Nat, d < 2 ^ 32 →
    (elapsed (timestamp (a + d)) (timestamp a)).toNat = d ∧
    (0 < d → (elapsed (timestamp a) (timestamp (a + d))).toNat = 2 ^ 32 - d)

/-- A run that keeps the duties the block can check is never turned away: it raises no fault, no re-arm is rejected
and no write finds the configuration locked (R239). What each duty asks of an operation is the model's reading of
R239's table (log entry 14). -/
def Obligations.RunsInOrderAreNeverTurnedAway : Prop :=
  ∀ (ops : List TimedOp) (s : State), s.faulted = false → operationsInOrder s ops = true →
    (∃ t, runInstrs (ops.map TimedOp.instr) s = .next t ∧ t.faulted = false) ∧
    ∀ r ∈ responsesOf (ops.map TimedOp.instr) s,
      r.status ≠ .fault ∧ r.status ≠ .rearmRejected ∧ r.status ≠ .configLocked

/-- The invariant holds at reset (R44, R45). -/
def Obligations.ResetMeetsTheInvariant : Prop := State.reset.Inv

/-- The invariant is kept by every step, from every state that meets it: R44 (a) to (f), the validity of a committed
configuration, the reserved bits of CFG_CTRL, the fault codes, and the ranges of RX_PACKET and TX_REMAINING (R24,
R28, R34, R44, R118, R221). -/
def Obligations.EveryStepKeepsTheInvariant : Prop :=
  ∀ s t : State, s.Inv → step s = .next t → t.Inv
end

