-- ==== Sys2Proof/Laws/Decode.lean ====
section
/-! SUPPORT. What the decoder and the encoder can do, said once: the fields of an encoded command word, and the
cases of the two formats. -/

namespace Sys2Proof

/-- The op field of an encoded operation is its opcode (R81, R82). -/
theorem opField_encode (i : Instr) : opField (encode i).cmd = i.opcode := by
  simp only [encode, opField]
  generalize i.highBits = h
  generalize i.opcode = o
  revert h o
  decide

/-- Bits [7:4] of an encoded operation are its high bits (R81, R82). -/
theorem highField_encode (i : Instr) : highField (encode i).cmd = i.highBits := by
  simp only [encode, highField]
  generalize i.highBits = h
  generalize i.opcode = o
  revert h o
  decide

/-- A command word is its two fields. -/
theorem fields_append (c : CommandWord) : highField c ++ opField c = c := by
  revert c
  decide

/-- A Format N word decodes exactly when z is 0000 (R81). -/
theorem decodeFormatN_legal_iff (c : CommandWord) (i j : Instr) :
    decodeFormatN c i = .legal j ↔ highField c = 0 ∧ i = j := by
  unfold decodeFormatN
  split <;> simp_all

/-- A Format I word decodes exactly when its index is mapped (R82, R85). -/
theorem decodeFormatI_legal_iff (c : CommandWord) (v : Word) (j : Instr) :
    decodeFormatI c v = .legal j ↔ mappedIndex (highField c) = true ∧ .cfgWrite (highField c) v = j := by
  unfold decodeFormatI
  split <;> simp_all

/-- An index names a register exactly when it is mapped (R85). -/
theorem cfgRegOfIndex_isSome (idx : BitVec 4) : (Machine.cfgRegOfIndex idx).isSome = mappedIndex idx := by
  revert idx
  decide

end Sys2Proof
end

