-- ==== Sys2Proof/Laws/State.lean ====
section
/-! SUPPORT. One lemma per field per named update of the state, each true by rfl, so that no proof unfolds a
record update. -/

namespace Sys2Proof.Machine

@[simp] theorem respond_cfgStart (st : Status) (d : Word) (s : State) : (respond st d s).cfgStart = s.cfgStart := rfl
@[simp] theorem respond_cfgShort (st : Status) (d : Word) (s : State) : (respond st d s).cfgShort = s.cfgShort := rfl
@[simp] theorem respond_cfgLong (st : Status) (d : Word) (s : State) : (respond st d s).cfgLong = s.cfgLong := rfl
@[simp] theorem respond_cfgGap (st : Status) (d : Word) (s : State) : (respond st d s).cfgGap = s.cfgGap := rfl
@[simp] theorem respond_cfgIdle (st : Status) (d : Word) (s : State) : (respond st d s).cfgIdle = s.cfgIdle := rfl
@[simp] theorem respond_cfgTol (st : Status) (d : Word) (s : State) : (respond st d s).cfgTol = s.cfgTol := rfl
@[simp] theorem respond_cfgCtrl (st : Status) (d : Word) (s : State) : (respond st d s).cfgCtrl = s.cfgCtrl := rfl
@[simp] theorem respond_configValid (st : Status) (d : Word) (s : State) : (respond st d s).configValid = s.configValid := rfl
@[simp] theorem respond_txArmed (st : Status) (d : Word) (s : State) : (respond st d s).txArmed = s.txArmed := rfl
@[simp] theorem respond_txInGap (st : Status) (d : Word) (s : State) : (respond st d s).txInGap = s.txInGap := rfl
@[simp] theorem respond_txRemaining (st : Status) (d : Word) (s : State) : (respond st d s).txRemaining = s.txRemaining := rfl
@[simp] theorem respond_txBuffer (st : Status) (d : Word) (s : State) : (respond st d s).txBuffer = s.txBuffer := rfl
@[simp] theorem respond_txLastTime (st : Status) (d : Word) (s : State) : (respond st d s).txLastTime = s.txLastTime := rfl
@[simp] theorem respond_carrierEn (st : Status) (d : Word) (s : State) : (respond st d s).carrierEn = s.carrierEn := rfl
@[simp] theorem respond_rxState (st : Status) (d : Word) (s : State) : (respond st d s).rxState = s.rxState := rfl
@[simp] theorem respond_rxPacket (st : Status) (d : Word) (s : State) : (respond st d s).rxPacket = s.rxPacket := rfl
@[simp] theorem respond_rxBits (st : Status) (d : Word) (s : State) : (respond st d s).rxBits = s.rxBits := rfl
@[simp] theorem respond_rxStartTime (st : Status) (d : Word) (s : State) : (respond st d s).rxStartTime = s.rxStartTime := rfl
@[simp] theorem respond_rxTimeout (st : Status) (d : Word) (s : State) : (respond st d s).rxTimeout = s.rxTimeout := rfl
@[simp] theorem respond_rxLastAccept (st : Status) (d : Word) (s : State) : (respond st d s).rxLastAccept = s.rxLastAccept := rfl
@[simp] theorem respond_faulted (st : Status) (d : Word) (s : State) : (respond st d s).faulted = s.faulted := rfl
@[simp] theorem respond_faultCode (st : Status) (d : Word) (s : State) : (respond st d s).faultCode = s.faultCode := rfl
@[simp] theorem respond_hostQueue (st : Status) (d : Word) (s : State) : (respond st d s).hostQueue = s.hostQueue := rfl
@[simp] theorem respond_tickQueue (st : Status) (d : Word) (s : State) : (respond st d s).tickQueue = s.tickQueue := rfl
@[simp] theorem respond_arbiter (st : Status) (d : Word) (s : State) : (respond st d s).arbiter = s.arbiter := rfl
@[simp] theorem respond_response (st : Status) (d : Word) (s : State) : (respond st d s).response = some ⟨st, d⟩ := rfl
@[simp] theorem respond_issuer (st : Status) (d : Word) (s : State) : (respond st d s).issuer = s.issuer := rfl
@[simp] theorem respond_packetBits (st : Status) (d : Word) (s : State) : (respond st d s).packetBits = s.packetBits := rfl
@[simp] theorem respond_hasChecksum (st : Status) (d : Word) (s : State) : (respond st d s).hasChecksum = s.hasChecksum := rfl
@[simp] theorem respond_activeLevel (st : Status) (d : Word) (s : State) : (respond st d s).activeLevel = s.activeLevel := rfl

@[simp] theorem raiseFault_cfgStart (c : FaultCause) (s : State) : (raiseFault c s).cfgStart = s.cfgStart := rfl
@[simp] theorem raiseFault_cfgShort (c : FaultCause) (s : State) : (raiseFault c s).cfgShort = s.cfgShort := rfl
@[simp] theorem raiseFault_cfgLong (c : FaultCause) (s : State) : (raiseFault c s).cfgLong = s.cfgLong := rfl
@[simp] theorem raiseFault_cfgGap (c : FaultCause) (s : State) : (raiseFault c s).cfgGap = s.cfgGap := rfl
@[simp] theorem raiseFault_cfgIdle (c : FaultCause) (s : State) : (raiseFault c s).cfgIdle = s.cfgIdle := rfl
@[simp] theorem raiseFault_cfgTol (c : FaultCause) (s : State) : (raiseFault c s).cfgTol = s.cfgTol := rfl
@[simp] theorem raiseFault_cfgCtrl (c : FaultCause) (s : State) : (raiseFault c s).cfgCtrl = s.cfgCtrl := rfl
@[simp] theorem raiseFault_configValid (c : FaultCause) (s : State) : (raiseFault c s).configValid = s.configValid := rfl
@[simp] theorem raiseFault_txArmed (c : FaultCause) (s : State) : (raiseFault c s).txArmed = s.txArmed := rfl
@[simp] theorem raiseFault_txInGap (c : FaultCause) (s : State) : (raiseFault c s).txInGap = s.txInGap := rfl
@[simp] theorem raiseFault_txRemaining (c : FaultCause) (s : State) : (raiseFault c s).txRemaining = s.txRemaining := rfl
@[simp] theorem raiseFault_txBuffer (c : FaultCause) (s : State) : (raiseFault c s).txBuffer = s.txBuffer := rfl
@[simp] theorem raiseFault_txLastTime (c : FaultCause) (s : State) : (raiseFault c s).txLastTime = s.txLastTime := rfl
@[simp] theorem raiseFault_carrierEn (c : FaultCause) (s : State) : (raiseFault c s).carrierEn = false := rfl
@[simp] theorem raiseFault_rxState (c : FaultCause) (s : State) : (raiseFault c s).rxState = s.rxState := rfl
@[simp] theorem raiseFault_rxPacket (c : FaultCause) (s : State) : (raiseFault c s).rxPacket = s.rxPacket := rfl
@[simp] theorem raiseFault_rxBits (c : FaultCause) (s : State) : (raiseFault c s).rxBits = s.rxBits := rfl
@[simp] theorem raiseFault_rxStartTime (c : FaultCause) (s : State) : (raiseFault c s).rxStartTime = s.rxStartTime := rfl
@[simp] theorem raiseFault_rxTimeout (c : FaultCause) (s : State) : (raiseFault c s).rxTimeout = s.rxTimeout := rfl
@[simp] theorem raiseFault_rxLastAccept (c : FaultCause) (s : State) : (raiseFault c s).rxLastAccept = s.rxLastAccept := rfl
@[simp] theorem raiseFault_faulted (c : FaultCause) (s : State) : (raiseFault c s).faulted = true := rfl
@[simp] theorem raiseFault_faultCode (c : FaultCause) (s : State) : (raiseFault c s).faultCode = c.code := rfl
@[simp] theorem raiseFault_hostQueue (c : FaultCause) (s : State) : (raiseFault c s).hostQueue = s.hostQueue := rfl
@[simp] theorem raiseFault_tickQueue (c : FaultCause) (s : State) : (raiseFault c s).tickQueue = s.tickQueue := rfl
@[simp] theorem raiseFault_arbiter (c : FaultCause) (s : State) : (raiseFault c s).arbiter = s.arbiter := rfl
@[simp] theorem raiseFault_response (c : FaultCause) (s : State) : (raiseFault c s).response = some ⟨.fault, zext32 c.code⟩ := rfl
@[simp] theorem raiseFault_issuer (c : FaultCause) (s : State) : (raiseFault c s).issuer = s.issuer := rfl
@[simp] theorem raiseFault_packetBits (c : FaultCause) (s : State) : (raiseFault c s).packetBits = s.packetBits := rfl
@[simp] theorem raiseFault_hasChecksum (c : FaultCause) (s : State) : (raiseFault c s).hasChecksum = s.hasChecksum := rfl
@[simp] theorem raiseFault_activeLevel (c : FaultCause) (s : State) : (raiseFault c s).activeLevel = s.activeLevel := rfl

@[simp] theorem waitForInput_cfgStart (s : State) : (waitForInput s).cfgStart = s.cfgStart := rfl
@[simp] theorem waitForInput_cfgShort (s : State) : (waitForInput s).cfgShort = s.cfgShort := rfl
@[simp] theorem waitForInput_cfgLong (s : State) : (waitForInput s).cfgLong = s.cfgLong := rfl
@[simp] theorem waitForInput_cfgGap (s : State) : (waitForInput s).cfgGap = s.cfgGap := rfl
@[simp] theorem waitForInput_cfgIdle (s : State) : (waitForInput s).cfgIdle = s.cfgIdle := rfl
@[simp] theorem waitForInput_cfgTol (s : State) : (waitForInput s).cfgTol = s.cfgTol := rfl
@[simp] theorem waitForInput_cfgCtrl (s : State) : (waitForInput s).cfgCtrl = s.cfgCtrl := rfl
@[simp] theorem waitForInput_configValid (s : State) : (waitForInput s).configValid = s.configValid := rfl
@[simp] theorem waitForInput_txArmed (s : State) : (waitForInput s).txArmed = s.txArmed := rfl
@[simp] theorem waitForInput_txInGap (s : State) : (waitForInput s).txInGap = s.txInGap := rfl
@[simp] theorem waitForInput_txRemaining (s : State) : (waitForInput s).txRemaining = s.txRemaining := rfl
@[simp] theorem waitForInput_txBuffer (s : State) : (waitForInput s).txBuffer = s.txBuffer := rfl
@[simp] theorem waitForInput_txLastTime (s : State) : (waitForInput s).txLastTime = s.txLastTime := rfl
@[simp] theorem waitForInput_carrierEn (s : State) : (waitForInput s).carrierEn = s.carrierEn := rfl
@[simp] theorem waitForInput_rxState (s : State) : (waitForInput s).rxState = s.rxState := rfl
@[simp] theorem waitForInput_rxPacket (s : State) : (waitForInput s).rxPacket = s.rxPacket := rfl
@[simp] theorem waitForInput_rxBits (s : State) : (waitForInput s).rxBits = s.rxBits := rfl
@[simp] theorem waitForInput_rxStartTime (s : State) : (waitForInput s).rxStartTime = s.rxStartTime := rfl
@[simp] theorem waitForInput_rxTimeout (s : State) : (waitForInput s).rxTimeout = s.rxTimeout := rfl
@[simp] theorem waitForInput_rxLastAccept (s : State) : (waitForInput s).rxLastAccept = s.rxLastAccept := rfl
@[simp] theorem waitForInput_faulted (s : State) : (waitForInput s).faulted = s.faulted := rfl
@[simp] theorem waitForInput_faultCode (s : State) : (waitForInput s).faultCode = s.faultCode := rfl
@[simp] theorem waitForInput_hostQueue (s : State) : (waitForInput s).hostQueue = s.hostQueue := rfl
@[simp] theorem waitForInput_tickQueue (s : State) : (waitForInput s).tickQueue = s.tickQueue := rfl
@[simp] theorem waitForInput_arbiter (s : State) : (waitForInput s).arbiter = s.arbiter := rfl
@[simp] theorem waitForInput_response (s : State) : (waitForInput s).response = none := rfl
@[simp] theorem waitForInput_issuer (s : State) : (waitForInput s).issuer = none := rfl
@[simp] theorem waitForInput_packetBits (s : State) : (waitForInput s).packetBits = s.packetBits := rfl
@[simp] theorem waitForInput_hasChecksum (s : State) : (waitForInput s).hasChecksum = s.hasChecksum := rfl
@[simp] theorem waitForInput_activeLevel (s : State) : (waitForInput s).activeLevel = s.activeLevel := rfl

@[simp] theorem acceptBit_cfgStart (b : Bool) (now : Word) (s : State) : (acceptBit b now s).cfgStart = s.cfgStart := rfl
@[simp] theorem acceptBit_cfgShort (b : Bool) (now : Word) (s : State) : (acceptBit b now s).cfgShort = s.cfgShort := rfl
@[simp] theorem acceptBit_cfgLong (b : Bool) (now : Word) (s : State) : (acceptBit b now s).cfgLong = s.cfgLong := rfl
@[simp] theorem acceptBit_cfgGap (b : Bool) (now : Word) (s : State) : (acceptBit b now s).cfgGap = s.cfgGap := rfl
@[simp] theorem acceptBit_cfgIdle (b : Bool) (now : Word) (s : State) : (acceptBit b now s).cfgIdle = s.cfgIdle := rfl
@[simp] theorem acceptBit_cfgTol (b : Bool) (now : Word) (s : State) : (acceptBit b now s).cfgTol = s.cfgTol := rfl
@[simp] theorem acceptBit_cfgCtrl (b : Bool) (now : Word) (s : State) : (acceptBit b now s).cfgCtrl = s.cfgCtrl := rfl
@[simp] theorem acceptBit_configValid (b : Bool) (now : Word) (s : State) : (acceptBit b now s).configValid = s.configValid := rfl
@[simp] theorem acceptBit_txArmed (b : Bool) (now : Word) (s : State) : (acceptBit b now s).txArmed = s.txArmed := rfl
@[simp] theorem acceptBit_txInGap (b : Bool) (now : Word) (s : State) : (acceptBit b now s).txInGap = s.txInGap := rfl
@[simp] theorem acceptBit_txRemaining (b : Bool) (now : Word) (s : State) : (acceptBit b now s).txRemaining = s.txRemaining := rfl
@[simp] theorem acceptBit_txBuffer (b : Bool) (now : Word) (s : State) : (acceptBit b now s).txBuffer = s.txBuffer := rfl
@[simp] theorem acceptBit_txLastTime (b : Bool) (now : Word) (s : State) : (acceptBit b now s).txLastTime = s.txLastTime := rfl
@[simp] theorem acceptBit_carrierEn (b : Bool) (now : Word) (s : State) : (acceptBit b now s).carrierEn = s.carrierEn := rfl
@[simp] theorem acceptBit_rxState (b : Bool) (now : Word) (s : State) : (acceptBit b now s).rxState = s.rxState := rfl
@[simp] theorem acceptBit_rxPacket (b : Bool) (now : Word) (s : State) : (acceptBit b now s).rxPacket = shiftedPacket b s := rfl
@[simp] theorem acceptBit_rxBits (b : Bool) (now : Word) (s : State) : (acceptBit b now s).rxBits = sat63 (s.rxBits.toNat + 1) := rfl
@[simp] theorem acceptBit_rxStartTime (b : Bool) (now : Word) (s : State) : (acceptBit b now s).rxStartTime = s.rxStartTime := rfl
@[simp] theorem acceptBit_rxTimeout (b : Bool) (now : Word) (s : State) : (acceptBit b now s).rxTimeout = s.rxTimeout := rfl
@[simp] theorem acceptBit_rxLastAccept (b : Bool) (now : Word) (s : State) : (acceptBit b now s).rxLastAccept = now := rfl
@[simp] theorem acceptBit_faulted (b : Bool) (now : Word) (s : State) : (acceptBit b now s).faulted = s.faulted := rfl
@[simp] theorem acceptBit_faultCode (b : Bool) (now : Word) (s : State) : (acceptBit b now s).faultCode = s.faultCode := rfl
@[simp] theorem acceptBit_hostQueue (b : Bool) (now : Word) (s : State) : (acceptBit b now s).hostQueue = s.hostQueue := rfl
@[simp] theorem acceptBit_tickQueue (b : Bool) (now : Word) (s : State) : (acceptBit b now s).tickQueue = s.tickQueue := rfl
@[simp] theorem acceptBit_arbiter (b : Bool) (now : Word) (s : State) : (acceptBit b now s).arbiter = s.arbiter := rfl
@[simp] theorem acceptBit_response (b : Bool) (now : Word) (s : State) : (acceptBit b now s).response = s.response := rfl
@[simp] theorem acceptBit_issuer (b : Bool) (now : Word) (s : State) : (acceptBit b now s).issuer = s.issuer := rfl
@[simp] theorem acceptBit_packetBits (b : Bool) (now : Word) (s : State) : (acceptBit b now s).packetBits = s.packetBits := rfl
@[simp] theorem acceptBit_hasChecksum (b : Bool) (now : Word) (s : State) : (acceptBit b now s).hasChecksum = s.hasChecksum := rfl
@[simp] theorem acceptBit_activeLevel (b : Bool) (now : Word) (s : State) : (acceptBit b now s).activeLevel = s.activeLevel := rfl

@[simp] theorem acceptStart_cfgStart (now : Word) (s : State) : (acceptStart now s).cfgStart = s.cfgStart := rfl
@[simp] theorem acceptStart_cfgShort (now : Word) (s : State) : (acceptStart now s).cfgShort = s.cfgShort := rfl
@[simp] theorem acceptStart_cfgLong (now : Word) (s : State) : (acceptStart now s).cfgLong = s.cfgLong := rfl
@[simp] theorem acceptStart_cfgGap (now : Word) (s : State) : (acceptStart now s).cfgGap = s.cfgGap := rfl
@[simp] theorem acceptStart_cfgIdle (now : Word) (s : State) : (acceptStart now s).cfgIdle = s.cfgIdle := rfl
@[simp] theorem acceptStart_cfgTol (now : Word) (s : State) : (acceptStart now s).cfgTol = s.cfgTol := rfl
@[simp] theorem acceptStart_cfgCtrl (now : Word) (s : State) : (acceptStart now s).cfgCtrl = s.cfgCtrl := rfl
@[simp] theorem acceptStart_configValid (now : Word) (s : State) : (acceptStart now s).configValid = s.configValid := rfl
@[simp] theorem acceptStart_txArmed (now : Word) (s : State) : (acceptStart now s).txArmed = s.txArmed := rfl
@[simp] theorem acceptStart_txInGap (now : Word) (s : State) : (acceptStart now s).txInGap = s.txInGap := rfl
@[simp] theorem acceptStart_txRemaining (now : Word) (s : State) : (acceptStart now s).txRemaining = s.txRemaining := rfl
@[simp] theorem acceptStart_txBuffer (now : Word) (s : State) : (acceptStart now s).txBuffer = s.txBuffer := rfl
@[simp] theorem acceptStart_txLastTime (now : Word) (s : State) : (acceptStart now s).txLastTime = s.txLastTime := rfl
@[simp] theorem acceptStart_carrierEn (now : Word) (s : State) : (acceptStart now s).carrierEn = s.carrierEn := rfl
@[simp] theorem acceptStart_rxState (now : Word) (s : State) : (acceptStart now s).rxState = s.rxState := rfl
@[simp] theorem acceptStart_rxPacket (now : Word) (s : State) : (acceptStart now s).rxPacket = 0 := rfl
@[simp] theorem acceptStart_rxBits (now : Word) (s : State) : (acceptStart now s).rxBits = 0 := rfl
@[simp] theorem acceptStart_rxStartTime (now : Word) (s : State) : (acceptStart now s).rxStartTime = s.rxStartTime := rfl
@[simp] theorem acceptStart_rxTimeout (now : Word) (s : State) : (acceptStart now s).rxTimeout = s.rxTimeout := rfl
@[simp] theorem acceptStart_rxLastAccept (now : Word) (s : State) : (acceptStart now s).rxLastAccept = now := rfl
@[simp] theorem acceptStart_faulted (now : Word) (s : State) : (acceptStart now s).faulted = s.faulted := rfl
@[simp] theorem acceptStart_faultCode (now : Word) (s : State) : (acceptStart now s).faultCode = s.faultCode := rfl
@[simp] theorem acceptStart_hostQueue (now : Word) (s : State) : (acceptStart now s).hostQueue = s.hostQueue := rfl
@[simp] theorem acceptStart_tickQueue (now : Word) (s : State) : (acceptStart now s).tickQueue = s.tickQueue := rfl
@[simp] theorem acceptStart_arbiter (now : Word) (s : State) : (acceptStart now s).arbiter = s.arbiter := rfl
@[simp] theorem acceptStart_response (now : Word) (s : State) : (acceptStart now s).response = s.response := rfl
@[simp] theorem acceptStart_issuer (now : Word) (s : State) : (acceptStart now s).issuer = s.issuer := rfl
@[simp] theorem acceptStart_packetBits (now : Word) (s : State) : (acceptStart now s).packetBits = s.packetBits := rfl
@[simp] theorem acceptStart_hasChecksum (now : Word) (s : State) : (acceptStart now s).hasChecksum = s.hasChecksum := rfl
@[simp] theorem acceptStart_activeLevel (now : Word) (s : State) : (acceptStart now s).activeLevel = s.activeLevel := rfl

@[simp] theorem clearAccumulator_cfgStart (s : State) : (clearAccumulator s).cfgStart = s.cfgStart := rfl
@[simp] theorem clearAccumulator_cfgShort (s : State) : (clearAccumulator s).cfgShort = s.cfgShort := rfl
@[simp] theorem clearAccumulator_cfgLong (s : State) : (clearAccumulator s).cfgLong = s.cfgLong := rfl
@[simp] theorem clearAccumulator_cfgGap (s : State) : (clearAccumulator s).cfgGap = s.cfgGap := rfl
@[simp] theorem clearAccumulator_cfgIdle (s : State) : (clearAccumulator s).cfgIdle = s.cfgIdle := rfl
@[simp] theorem clearAccumulator_cfgTol (s : State) : (clearAccumulator s).cfgTol = s.cfgTol := rfl
@[simp] theorem clearAccumulator_cfgCtrl (s : State) : (clearAccumulator s).cfgCtrl = s.cfgCtrl := rfl
@[simp] theorem clearAccumulator_configValid (s : State) : (clearAccumulator s).configValid = s.configValid := rfl
@[simp] theorem clearAccumulator_txArmed (s : State) : (clearAccumulator s).txArmed = s.txArmed := rfl
@[simp] theorem clearAccumulator_txInGap (s : State) : (clearAccumulator s).txInGap = s.txInGap := rfl
@[simp] theorem clearAccumulator_txRemaining (s : State) : (clearAccumulator s).txRemaining = s.txRemaining := rfl
@[simp] theorem clearAccumulator_txBuffer (s : State) : (clearAccumulator s).txBuffer = s.txBuffer := rfl
@[simp] theorem clearAccumulator_txLastTime (s : State) : (clearAccumulator s).txLastTime = s.txLastTime := rfl
@[simp] theorem clearAccumulator_carrierEn (s : State) : (clearAccumulator s).carrierEn = s.carrierEn := rfl
@[simp] theorem clearAccumulator_rxState (s : State) : (clearAccumulator s).rxState = s.rxState := rfl
@[simp] theorem clearAccumulator_rxPacket (s : State) : (clearAccumulator s).rxPacket = 0 := rfl
@[simp] theorem clearAccumulator_rxBits (s : State) : (clearAccumulator s).rxBits = 0 := rfl
@[simp] theorem clearAccumulator_rxStartTime (s : State) : (clearAccumulator s).rxStartTime = s.rxStartTime := rfl
@[simp] theorem clearAccumulator_rxTimeout (s : State) : (clearAccumulator s).rxTimeout = s.rxTimeout := rfl
@[simp] theorem clearAccumulator_rxLastAccept (s : State) : (clearAccumulator s).rxLastAccept = s.rxLastAccept := rfl
@[simp] theorem clearAccumulator_faulted (s : State) : (clearAccumulator s).faulted = s.faulted := rfl
@[simp] theorem clearAccumulator_faultCode (s : State) : (clearAccumulator s).faultCode = s.faultCode := rfl
@[simp] theorem clearAccumulator_hostQueue (s : State) : (clearAccumulator s).hostQueue = s.hostQueue := rfl
@[simp] theorem clearAccumulator_tickQueue (s : State) : (clearAccumulator s).tickQueue = s.tickQueue := rfl
@[simp] theorem clearAccumulator_arbiter (s : State) : (clearAccumulator s).arbiter = s.arbiter := rfl
@[simp] theorem clearAccumulator_response (s : State) : (clearAccumulator s).response = s.response := rfl
@[simp] theorem clearAccumulator_issuer (s : State) : (clearAccumulator s).issuer = s.issuer := rfl
@[simp] theorem clearAccumulator_packetBits (s : State) : (clearAccumulator s).packetBits = s.packetBits := rfl
@[simp] theorem clearAccumulator_hasChecksum (s : State) : (clearAccumulator s).hasChecksum = s.hasChecksum := rfl
@[simp] theorem clearAccumulator_activeLevel (s : State) : (clearAccumulator s).activeLevel = s.activeLevel := rfl

@[simp] theorem tickIdle_cfgStart (s : State) : (tickIdle s).cfgStart = s.cfgStart := rfl
@[simp] theorem tickIdle_cfgShort (s : State) : (tickIdle s).cfgShort = s.cfgShort := rfl
@[simp] theorem tickIdle_cfgLong (s : State) : (tickIdle s).cfgLong = s.cfgLong := rfl
@[simp] theorem tickIdle_cfgGap (s : State) : (tickIdle s).cfgGap = s.cfgGap := rfl
@[simp] theorem tickIdle_cfgIdle (s : State) : (tickIdle s).cfgIdle = s.cfgIdle := rfl
@[simp] theorem tickIdle_cfgTol (s : State) : (tickIdle s).cfgTol = s.cfgTol := rfl
@[simp] theorem tickIdle_cfgCtrl (s : State) : (tickIdle s).cfgCtrl = s.cfgCtrl := rfl
@[simp] theorem tickIdle_configValid (s : State) : (tickIdle s).configValid = s.configValid := rfl
@[simp] theorem tickIdle_txArmed (s : State) : (tickIdle s).txArmed = s.txArmed := rfl
@[simp] theorem tickIdle_txInGap (s : State) : (tickIdle s).txInGap = s.txInGap := rfl
@[simp] theorem tickIdle_txRemaining (s : State) : (tickIdle s).txRemaining = s.txRemaining := rfl
@[simp] theorem tickIdle_txBuffer (s : State) : (tickIdle s).txBuffer = s.txBuffer := rfl
@[simp] theorem tickIdle_txLastTime (s : State) : (tickIdle s).txLastTime = s.txLastTime := rfl
@[simp] theorem tickIdle_carrierEn (s : State) : (tickIdle s).carrierEn = false := rfl
@[simp] theorem tickIdle_rxState (s : State) : (tickIdle s).rxState = s.rxState := rfl
@[simp] theorem tickIdle_rxPacket (s : State) : (tickIdle s).rxPacket = s.rxPacket := rfl
@[simp] theorem tickIdle_rxBits (s : State) : (tickIdle s).rxBits = s.rxBits := rfl
@[simp] theorem tickIdle_rxStartTime (s : State) : (tickIdle s).rxStartTime = s.rxStartTime := rfl
@[simp] theorem tickIdle_rxTimeout (s : State) : (tickIdle s).rxTimeout = s.rxTimeout := rfl
@[simp] theorem tickIdle_rxLastAccept (s : State) : (tickIdle s).rxLastAccept = s.rxLastAccept := rfl
@[simp] theorem tickIdle_faulted (s : State) : (tickIdle s).faulted = s.faulted := rfl
@[simp] theorem tickIdle_faultCode (s : State) : (tickIdle s).faultCode = s.faultCode := rfl
@[simp] theorem tickIdle_hostQueue (s : State) : (tickIdle s).hostQueue = s.hostQueue := rfl
@[simp] theorem tickIdle_tickQueue (s : State) : (tickIdle s).tickQueue = s.tickQueue := rfl
@[simp] theorem tickIdle_arbiter (s : State) : (tickIdle s).arbiter = s.arbiter := rfl
@[simp] theorem tickIdle_response (s : State) : (tickIdle s).response = some ⟨.ok, tickData false .off⟩ := rfl
@[simp] theorem tickIdle_issuer (s : State) : (tickIdle s).issuer = s.issuer := rfl
@[simp] theorem tickIdle_packetBits (s : State) : (tickIdle s).packetBits = s.packetBits := rfl
@[simp] theorem tickIdle_hasChecksum (s : State) : (tickIdle s).hasChecksum = s.hasChecksum := rfl
@[simp] theorem tickIdle_activeLevel (s : State) : (tickIdle s).activeLevel = s.activeLevel := rfl

@[simp] theorem tickComplete_cfgStart (s : State) : (tickComplete s).cfgStart = s.cfgStart := rfl
@[simp] theorem tickComplete_cfgShort (s : State) : (tickComplete s).cfgShort = s.cfgShort := rfl
@[simp] theorem tickComplete_cfgLong (s : State) : (tickComplete s).cfgLong = s.cfgLong := rfl
@[simp] theorem tickComplete_cfgGap (s : State) : (tickComplete s).cfgGap = s.cfgGap := rfl
@[simp] theorem tickComplete_cfgIdle (s : State) : (tickComplete s).cfgIdle = s.cfgIdle := rfl
@[simp] theorem tickComplete_cfgTol (s : State) : (tickComplete s).cfgTol = s.cfgTol := rfl
@[simp] theorem tickComplete_cfgCtrl (s : State) : (tickComplete s).cfgCtrl = s.cfgCtrl := rfl
@[simp] theorem tickComplete_configValid (s : State) : (tickComplete s).configValid = s.configValid := rfl
@[simp] theorem tickComplete_txArmed (s : State) : (tickComplete s).txArmed = false := rfl
@[simp] theorem tickComplete_txInGap (s : State) : (tickComplete s).txInGap = s.txInGap := rfl
@[simp] theorem tickComplete_txRemaining (s : State) : (tickComplete s).txRemaining = s.txRemaining := rfl
@[simp] theorem tickComplete_txBuffer (s : State) : (tickComplete s).txBuffer = s.txBuffer := rfl
@[simp] theorem tickComplete_txLastTime (s : State) : (tickComplete s).txLastTime = s.txLastTime := rfl
@[simp] theorem tickComplete_carrierEn (s : State) : (tickComplete s).carrierEn = false := rfl
@[simp] theorem tickComplete_rxState (s : State) : (tickComplete s).rxState = s.rxState := rfl
@[simp] theorem tickComplete_rxPacket (s : State) : (tickComplete s).rxPacket = s.rxPacket := rfl
@[simp] theorem tickComplete_rxBits (s : State) : (tickComplete s).rxBits = s.rxBits := rfl
@[simp] theorem tickComplete_rxStartTime (s : State) : (tickComplete s).rxStartTime = s.rxStartTime := rfl
@[simp] theorem tickComplete_rxTimeout (s : State) : (tickComplete s).rxTimeout = s.rxTimeout := rfl
@[simp] theorem tickComplete_rxLastAccept (s : State) : (tickComplete s).rxLastAccept = s.rxLastAccept := rfl
@[simp] theorem tickComplete_faulted (s : State) : (tickComplete s).faulted = s.faulted := rfl
@[simp] theorem tickComplete_faultCode (s : State) : (tickComplete s).faultCode = s.faultCode := rfl
@[simp] theorem tickComplete_hostQueue (s : State) : (tickComplete s).hostQueue = s.hostQueue := rfl
@[simp] theorem tickComplete_tickQueue (s : State) : (tickComplete s).tickQueue = s.tickQueue := rfl
@[simp] theorem tickComplete_arbiter (s : State) : (tickComplete s).arbiter = s.arbiter := rfl
@[simp] theorem tickComplete_response (s : State) : (tickComplete s).response = some ⟨.ok, tickData true .off⟩ := rfl
@[simp] theorem tickComplete_issuer (s : State) : (tickComplete s).issuer = s.issuer := rfl
@[simp] theorem tickComplete_packetBits (s : State) : (tickComplete s).packetBits = s.packetBits := rfl
@[simp] theorem tickComplete_hasChecksum (s : State) : (tickComplete s).hasChecksum = s.hasChecksum := rfl
@[simp] theorem tickComplete_activeLevel (s : State) : (tickComplete s).activeLevel = s.activeLevel := rfl

@[simp] theorem enterGap_cfgStart (now : Word) (s : State) : (enterGap now s).cfgStart = s.cfgStart := rfl
@[simp] theorem enterGap_cfgShort (now : Word) (s : State) : (enterGap now s).cfgShort = s.cfgShort := rfl
@[simp] theorem enterGap_cfgLong (now : Word) (s : State) : (enterGap now s).cfgLong = s.cfgLong := rfl
@[simp] theorem enterGap_cfgGap (now : Word) (s : State) : (enterGap now s).cfgGap = s.cfgGap := rfl
@[simp] theorem enterGap_cfgIdle (now : Word) (s : State) : (enterGap now s).cfgIdle = s.cfgIdle := rfl
@[simp] theorem enterGap_cfgTol (now : Word) (s : State) : (enterGap now s).cfgTol = s.cfgTol := rfl
@[simp] theorem enterGap_cfgCtrl (now : Word) (s : State) : (enterGap now s).cfgCtrl = s.cfgCtrl := rfl
@[simp] theorem enterGap_configValid (now : Word) (s : State) : (enterGap now s).configValid = s.configValid := rfl
@[simp] theorem enterGap_txArmed (now : Word) (s : State) : (enterGap now s).txArmed = s.txArmed := rfl
@[simp] theorem enterGap_txInGap (now : Word) (s : State) : (enterGap now s).txInGap = true := rfl
@[simp] theorem enterGap_txRemaining (now : Word) (s : State) : (enterGap now s).txRemaining = s.txRemaining := rfl
@[simp] theorem enterGap_txBuffer (now : Word) (s : State) : (enterGap now s).txBuffer = s.txBuffer := rfl
@[simp] theorem enterGap_txLastTime (now : Word) (s : State) : (enterGap now s).txLastTime = now := rfl
@[simp] theorem enterGap_carrierEn (now : Word) (s : State) : (enterGap now s).carrierEn = false := rfl
@[simp] theorem enterGap_rxState (now : Word) (s : State) : (enterGap now s).rxState = s.rxState := rfl
@[simp] theorem enterGap_rxPacket (now : Word) (s : State) : (enterGap now s).rxPacket = s.rxPacket := rfl
@[simp] theorem enterGap_rxBits (now : Word) (s : State) : (enterGap now s).rxBits = s.rxBits := rfl
@[simp] theorem enterGap_rxStartTime (now : Word) (s : State) : (enterGap now s).rxStartTime = s.rxStartTime := rfl
@[simp] theorem enterGap_rxTimeout (now : Word) (s : State) : (enterGap now s).rxTimeout = s.rxTimeout := rfl
@[simp] theorem enterGap_rxLastAccept (now : Word) (s : State) : (enterGap now s).rxLastAccept = s.rxLastAccept := rfl
@[simp] theorem enterGap_faulted (now : Word) (s : State) : (enterGap now s).faulted = s.faulted := rfl
@[simp] theorem enterGap_faultCode (now : Word) (s : State) : (enterGap now s).faultCode = s.faultCode := rfl
@[simp] theorem enterGap_hostQueue (now : Word) (s : State) : (enterGap now s).hostQueue = s.hostQueue := rfl
@[simp] theorem enterGap_tickQueue (now : Word) (s : State) : (enterGap now s).tickQueue = s.tickQueue := rfl
@[simp] theorem enterGap_arbiter (now : Word) (s : State) : (enterGap now s).arbiter = s.arbiter := rfl
@[simp] theorem enterGap_response (now : Word) (s : State) : (enterGap now s).response = some ⟨.ok, tickData false .gap⟩ := rfl
@[simp] theorem enterGap_issuer (now : Word) (s : State) : (enterGap now s).issuer = s.issuer := rfl
@[simp] theorem enterGap_packetBits (now : Word) (s : State) : (enterGap now s).packetBits = s.packetBits := rfl
@[simp] theorem enterGap_hasChecksum (now : Word) (s : State) : (enterGap now s).hasChecksum = s.hasChecksum := rfl
@[simp] theorem enterGap_activeLevel (now : Word) (s : State) : (enterGap now s).activeLevel = s.activeLevel := rfl

@[simp] theorem enterMark_cfgStart (now : Word) (s : State) : (enterMark now s).cfgStart = s.cfgStart := rfl
@[simp] theorem enterMark_cfgShort (now : Word) (s : State) : (enterMark now s).cfgShort = s.cfgShort := rfl
@[simp] theorem enterMark_cfgLong (now : Word) (s : State) : (enterMark now s).cfgLong = s.cfgLong := rfl
@[simp] theorem enterMark_cfgGap (now : Word) (s : State) : (enterMark now s).cfgGap = s.cfgGap := rfl
@[simp] theorem enterMark_cfgIdle (now : Word) (s : State) : (enterMark now s).cfgIdle = s.cfgIdle := rfl
@[simp] theorem enterMark_cfgTol (now : Word) (s : State) : (enterMark now s).cfgTol = s.cfgTol := rfl
@[simp] theorem enterMark_cfgCtrl (now : Word) (s : State) : (enterMark now s).cfgCtrl = s.cfgCtrl := rfl
@[simp] theorem enterMark_configValid (now : Word) (s : State) : (enterMark now s).configValid = s.configValid := rfl
@[simp] theorem enterMark_txArmed (now : Word) (s : State) : (enterMark now s).txArmed = s.txArmed := rfl
@[simp] theorem enterMark_txInGap (now : Word) (s : State) : (enterMark now s).txInGap = false := rfl
@[simp] theorem enterMark_txRemaining (now : Word) (s : State) : (enterMark now s).txRemaining = s.txRemaining - 1 := rfl
@[simp] theorem enterMark_txBuffer (now : Word) (s : State) : (enterMark now s).txBuffer = s.txBuffer := rfl
@[simp] theorem enterMark_txLastTime (now : Word) (s : State) : (enterMark now s).txLastTime = now := rfl
@[simp] theorem enterMark_carrierEn (now : Word) (s : State) : (enterMark now s).carrierEn = true := rfl
@[simp] theorem enterMark_rxState (now : Word) (s : State) : (enterMark now s).rxState = s.rxState := rfl
@[simp] theorem enterMark_rxPacket (now : Word) (s : State) : (enterMark now s).rxPacket = s.rxPacket := rfl
@[simp] theorem enterMark_rxBits (now : Word) (s : State) : (enterMark now s).rxBits = s.rxBits := rfl
@[simp] theorem enterMark_rxStartTime (now : Word) (s : State) : (enterMark now s).rxStartTime = s.rxStartTime := rfl
@[simp] theorem enterMark_rxTimeout (now : Word) (s : State) : (enterMark now s).rxTimeout = s.rxTimeout := rfl
@[simp] theorem enterMark_rxLastAccept (now : Word) (s : State) : (enterMark now s).rxLastAccept = s.rxLastAccept := rfl
@[simp] theorem enterMark_faulted (now : Word) (s : State) : (enterMark now s).faulted = s.faulted := rfl
@[simp] theorem enterMark_faultCode (now : Word) (s : State) : (enterMark now s).faultCode = s.faultCode := rfl
@[simp] theorem enterMark_hostQueue (now : Word) (s : State) : (enterMark now s).hostQueue = s.hostQueue := rfl
@[simp] theorem enterMark_tickQueue (now : Word) (s : State) : (enterMark now s).tickQueue = s.tickQueue := rfl
@[simp] theorem enterMark_arbiter (now : Word) (s : State) : (enterMark now s).arbiter = s.arbiter := rfl
@[simp] theorem enterMark_response (now : Word) (s : State) : (enterMark now s).response = some ⟨.ok, tickData false (markCommand (nextBit s))⟩ := rfl
@[simp] theorem enterMark_issuer (now : Word) (s : State) : (enterMark now s).issuer = s.issuer := rfl
@[simp] theorem enterMark_packetBits (now : Word) (s : State) : (enterMark now s).packetBits = s.packetBits := rfl
@[simp] theorem enterMark_hasChecksum (now : Word) (s : State) : (enterMark now s).hasChecksum = s.hasChecksum := rfl
@[simp] theorem enterMark_activeLevel (now : Word) (s : State) : (enterMark now s).activeLevel = s.activeLevel := rfl

/-- Reset leaves exactly what State.reset holds, but for what is not the block's (R45, R250). -/
theorem applyReset_eq (s : State) :
    applyReset s =
      { State.reset with hostQueue := s.hostQueue, tickQueue := s.tickQueue, arbiter := s.arbiter } := rfl

end Sys2Proof.Machine
end

