-- ==== Sys2Proof/Laws/Ops.lean ====
section
/-! SUPPORT. What each shared operation can do, said once: the checks (R229), fault entry (R222), taking an
input (R68, R69), and, through them, every operation (`exec_eq`). -/

namespace Sys2Proof.Machine

/-- A block that is not faulted runs the body when no check applies (R229). -/
theorem afterChecks_of_pass (i : Instr) (s body : State) (hf : s.faulted = false) (hc : faultOf i s = none) :
    afterChecks i s body = body := by
  simp [afterChecks, precheck, hf, hc]

/-- A block that is not faulted raises the fault that the checks decide (R229). -/
theorem afterChecks_of_fault (i : Instr) (s body : State) (c : FaultCause) (hf : s.faulted = false)
    (hc : faultOf i s = some c) : afterChecks i s body = raiseFault c s := by
  simp [afterChecks, precheck, hf, hc]

/-- A faulted block answers as R223 says, and runs the body of QUERY alone. -/
theorem afterChecks_of_faulted (i : Instr) (s body : State) (hf : s.faulted = true) :
    afterChecks i s body = (faultedAnswer i s).getD body := by
  simp [afterChecks, precheck, hf]

/-- Everything the checks can do: the body runs, a fault is raised, or a faulted block answers (R229). -/
theorem afterChecks_cases (i : Instr) (s body : State) :
    (s.faulted = false ∧ faultOf i s = none ∧ afterChecks i s body = body) ∨
    (s.faulted = false ∧ ∃ c, faultOf i s = some c ∧ afterChecks i s body = raiseFault c s) ∨
    (s.faulted = true ∧ afterChecks i s body = (faultedAnswer i s).getD body) := by
  cases hf : s.faulted with
  | true => exact .inr (.inr ⟨rfl, afterChecks_of_faulted i s body hf⟩)
  | false =>
    cases hc : faultOf i s with
    | none => exact .inl ⟨rfl, rfl, afterChecks_of_pass i s body hf hc⟩
    | some c => exact .inr (.inl ⟨rfl, c, rfl, afterChecks_of_fault i s body c hf hc⟩)

/-- Everything an illegal command word can do (R225). -/
theorem illegalCommand_cases (s : State) :
    (s.faulted = false ∧ illegalCommand s = raiseFault .illegalCommand s) ∨
    (s.faulted = true ∧ illegalCommand s = answerFaulted s) := by
  unfold illegalCommand
  cases s.faulted <;> simp

/-- The body of an operation whose operands are well formed: what its rule does after the checks. -/
def bodyOf (i : Instr) (s : State) : State :=
  match i with
  | .nop => respond .ok 0 s
  | .cfgWrite idx value => (cfgRegOfIndex idx).elim s (fun r => cfgWriteBody r value s)
  | .cfgCommit => cfgCommitBody s
  | .arm packet => armBody packet s
  | .tick now => tickBody now s
  | .query selector => respond .ok (readSelector selector s) s
  | .classify measured => respond .ok (classifyData (classify measured s)) s
  | .rxStart timeout now => rxStartBody timeout now s
  | .rxCheck now => rxCheckBody now s
  | .rxPulse measured now => rxPulseBody measured now s

/-- Every operation, said once: its checks and then its body, or ILLEGAL_COMMAND for an unmapped index. -/
theorem exec_eq (i : Instr) (s : State) :
    exec i s = .next (if i.wellFormed then afterChecks i s (bodyOf i s) else illegalCommand s) := by
  cases i with
  | cfgWrite idx value =>
    have h := cfgRegOfIndex_isSome idx
    cases hr : cfgRegOfIndex idx <;>
      simp_all [exec, execCfgWrite, Instr.wellFormed, bodyOf, ← h]
  | _ => rfl

/-- Everything taking an input can do (R68, R69, R238). -/
theorem takeInput_cases (s : State) :
    (s.hostQueue = [] ∧ s.tickQueue = [] ∧ takeInput s = none) ∨
    (∃ x rest n, s.hostQueue = x :: rest ∧
      takeInput s = some (.host, x, { s with hostQueue := rest, arbiter := n })) ∨
    (∃ y rest n, s.tickQueue = y :: rest ∧
      takeInput s = some (.tickSource, y, { s with tickQueue := rest, arbiter := n })) := by
  unfold takeInput
  cases hh : s.hostQueue with
  | nil =>
    cases ht : s.tickQueue with
    | nil => exact .inl ⟨rfl, rfl, rfl⟩
    | cons y rest => exact .inr (.inr ⟨y, rest, s.arbiter, rfl, rfl⟩)
  | cons x hostRest =>
    cases ht : s.tickQueue with
    | nil => exact .inr (.inl ⟨x, hostRest, s.arbiter, rfl, rfl⟩)
    | cons y tickRest =>
      by_cases h : Config.tickServedFirst s.arbiter = true
      · exact .inr (.inr ⟨y, tickRest, s.arbiter + 1, rfl, by simp [h]⟩)
      · exact .inr (.inl ⟨x, hostRest, s.arbiter + 1, rfl, by simp [h]⟩)

/-- With nothing from the tick source the host's next input is taken. -/
theorem takeInput_host (s : State) (x : Input) (rest : List Input) (hh : s.hostQueue = x :: rest)
    (ht : s.tickQueue = []) : takeInput s = some (.host, x, { s with hostQueue := rest }) := by
  simp [takeInput, hh, ht]

/-- With nothing from the host the tick source's next input is taken. -/
theorem takeInput_tickSource (s : State) (y : Input) (rest : List Input) (hh : s.hostQueue = [])
    (ht : s.tickQueue = y :: rest) : takeInput s = some (.tickSource, y, { s with tickQueue := rest }) := by
  simp [takeInput, hh, ht]

/-- The placed transaction is the very next input. -/
theorem takeInput_presentFirst (t : Transaction) (s : State) :
    takeInput (presentFirst t s) = some (.host, .transaction t, { s with tickQueue := [] }) := rfl

/-- A write of a configuration register changes no register outside the configuration (R111). -/
theorem writeCfg_frame (r : CfgReg) (v : Word) (s : State) :
    writeCfg r v s =
      { s with
        cfgStart := (writeCfg r v s).cfgStart
        cfgShort := (writeCfg r v s).cfgShort
        cfgLong := (writeCfg r v s).cfgLong
        cfgGap := (writeCfg r v s).cfgGap
        cfgIdle := (writeCfg r v s).cfgIdle
        cfgTol := (writeCfg r v s).cfgTol
        cfgCtrl := (writeCfg r v s).cfgCtrl } := by
  cases r <;> rfl

end Sys2Proof.Machine
end

