-- ==== Sys2Proof/Laws/Families.lean ====
section
/-! SUPPORT. What the bodies of the classifier, the receiver and the transmitter can do, said once. -/

namespace Sys2Proof.Machine

/-- The window test in natural numbers (R130). -/
theorem inWindow_iff (tol ref d : Word) :
    inWindow tol ref d = true ↔ ref.toNat ≤ d.toNat + tol.toNat ∧ d.toNat ≤ ref.toNat + tol.toNat := by
  simp only [inWindow, decide_eq_true_eq]
  omega

/-- The overlap test in integers (R115). -/
theorem windowsOverlap_iff (tol a b : Word) :
    windowsOverlap tol a b = true ↔
      (a.toNat : Int) - b.toNat ≤ 2 * tol.toNat ∧ (b.toNat : Int) - a.toNat ≤ 2 * tol.toNat := by
  simp only [windowsOverlap, decide_eq_true_eq]
  omega

/-- The packet width's check (R114). -/
theorem packetBitsOk_iff (s : State) :
    packetBitsOk s = true ↔ 1 ≤ s.packetBits.toNat ∧ s.packetBits.toNat ≤ 32 := by
  simp [packetBitsOk]

/-- The validation, pair by pair (R113, R114, R116). -/
theorem configOk_cases (s : State) (h : configOk s = true) :
    (1 ≤ s.packetBits.toNat ∧ s.packetBits.toNat ≤ 32) ∧
    windowsOverlap s.cfgTol s.cfgShort s.cfgLong = false ∧
    windowsOverlap s.cfgTol s.cfgShort s.cfgGap = false ∧
    windowsOverlap s.cfgTol s.cfgLong s.cfgGap = false ∧
    (s.cfgStart ≠ 0 →
      windowsOverlap s.cfgTol s.cfgShort s.cfgStart = false ∧
      windowsOverlap s.cfgTol s.cfgLong s.cfgStart = false ∧
      windowsOverlap s.cfgTol s.cfgGap s.cfgStart = false) := by
  by_cases h0 : s.cfgStart = 0 <;>
    simp_all [configOk, packetBitsOk, windowsDisjoint, windowSet, pairwiseDisjoint]

/-- Everything TICK's body can do, in the order of the source's steps (R182). -/
theorem tickBody_cases (now : Word) (s : State) :
    (s.txArmed = false ∧ tickBody now s = tickIdle s) ∨
    (s.txArmed = true ∧ s.txRemaining = 0 ∧ tickBody now s = tickComplete s) ∨
    (s.txArmed = true ∧ s.txRemaining ≠ 0 ∧ midPhase now s = true ∧
      tickBody now s = answerTick false .hold s) ∨
    (s.txArmed = true ∧ s.txRemaining ≠ 0 ∧ midPhase now s = false ∧ s.txInGap = false ∧
      tickBody now s = enterGap now s) ∨
    (s.txArmed = true ∧ s.txRemaining ≠ 0 ∧ midPhase now s = false ∧ s.txInGap = true ∧
      tickBody now s = enterMark now s) := by
  unfold tickBody
  by_cases h0 : s.txRemaining = 0 <;> cases s.txArmed <;> cases midPhase now s <;> cases s.txInGap <;>
    simp_all

/-- Everything RX.CHECK's body can do (R153). -/
theorem rxCheckBody_cases (now : Word) (s : State) :
    (rxComplete s = true ∧ rxCheckBody now s = respond .rxDoneOk s.rxPacket { s with rxState := .idle }) ∨
    (rxComplete s = false ∧ rxExpired now s = true ∧
      rxCheckBody now s = respond .rxTimeout 0 { s with rxState := .idle }) ∨
    (rxComplete s = false ∧ rxExpired now s = false ∧
      rxCheckBody now s = respond .rxContinue 0 { s with rxState := .wait }) := by
  unfold rxCheckBody
  cases rxComplete s <;> cases rxExpired now s <;> simp

/-- Everything RX.PULSE's body can do (R156). -/
theorem rxPulseBody_cases (d now : Word) (s : State) :
    (classify d s = .start ∧ rxPulseBody d now s = reportPulse false .start (acceptStart now s)) ∨
    (classify d s = .zero ∧ rxPulseBody d now s = reportPulse false .zero (acceptBit false now s)) ∨
    (classify d s = .one ∧ rxPulseBody d now s = reportPulse false .one (acceptBit true now s)) ∨
    (classify d s = .unrecognized ∧ idleExceeded now s = true ∧
      rxPulseBody d now s = reportPulse true .unrecognized (clearAccumulator s)) ∨
    (classify d s = .unrecognized ∧ idleExceeded now s = false ∧
      rxPulseBody d now s = reportPulse false .unrecognized s) := by
  unfold rxPulseBody
  cases hc : classify d s with
  | unrecognized => cases idleExceeded now s <;> simp
  | _ => simp

/-- The classification reads only the configuration (R138). -/
theorem classify_congr (d : Word) (s t : State) (h0 : t.cfgStart = s.cfgStart) (h1 : t.cfgShort = s.cfgShort)
    (h2 : t.cfgLong = s.cfgLong) (h3 : t.cfgTol = s.cfgTol) : classify d t = classify d s := by
  simp [classify, h0, h1, h2, h3]

/-- A shifted packet stays within the packet mask (R34, R158). -/
theorem shiftedPacket_lt (b : Bool) (s : State) : (shiftedPacket b s).toNat < 2 ^ s.packetBits.toNat := by
  unfold shiftedPacket packetMask
  rw [BitVec.toNat_ofNat]
  refine lt_of_le_of_lt (Nat.mod_le _ _) ?_
  rw [Nat.and_two_pow_sub_one_eq_mod]
  exact Nat.mod_lt _ (by positivity)

/-- The count of bits after one more bit, below its saturation (R35). -/
theorem sat63_toNat (x : Nat) : (sat63 x).toNat = min x 63 := by
  unfold sat63
  rw [BitVec.toNat_ofNat]
  omega

end Sys2Proof.Machine
end

