-- ==== Sys2Proof/Laws/Duties.lean ====
section
/-! SUPPORT. What the host procedures and the agents' duties can do, said once: a turn of RECEIVE's loop (R164), and
what an operation in order passes (R229, R239). -/

namespace Sys2Proof.Machine

/-- A turn of RECEIVE's loop returns on RX_DONE_OK (R164). -/
theorem receiveLoop_of_done (x : Sample) (rest : List Sample) (s t : State) (data : Word)
    (hc : exec (.rxCheck x.checkNow) s = .next t) (hr : t.response = some ⟨.rxDoneOk, data⟩) :
    receiveLoop (x :: rest) s = (.ok data, t) := by
  simp [receiveLoop, hc, hr]

/-- A turn of RECEIVE's loop returns on RX_TIMEOUT (R164). -/
theorem receiveLoop_of_timeout (x : Sample) (rest : List Sample) (s t : State) (data : Word)
    (hc : exec (.rxCheck x.checkNow) s = .next t) (hr : t.response = some ⟨.rxTimeout, data⟩) :
    receiveLoop (x :: rest) s = (.timeout, t) := by
  simp [receiveLoop, hc, hr]

/-- On every other response, a FAULT among them, a turn of RECEIVE's loop reports a pulse and goes round (R164). -/
theorem receiveLoop_of_other (x : Sample) (rest : List Sample) (s t u : State)
    (hc : exec (.rxCheck x.checkNow) s = .next t) (hd : ∀ data, t.response ≠ some ⟨.rxDoneOk, data⟩)
    (ht : ∀ data, t.response ≠ some ⟨.rxTimeout, data⟩)
    (hp : exec (.rxPulse x.measured x.pulseNow) t = .next u) :
    receiveLoop (x :: rest) s = receiveLoop rest u := by
  simp only [receiveLoop, hc, hp]

/-- An operation in order spells a legal word and passes the checks before a body (R229, R239). -/
theorem operationInOrder_passes (agent : Agent) (i : Instr) (s : State)
    (h : operationInOrder agent i s = true) : i.wellFormed = true ∧ faultOf i s = none := by
  cases i <;>
    simp_all [operationInOrder, Instr.wellFormed, faultOf, needsConfig, breaksHalfDuplex, breaksRxSequence]

/-- In a block that is not faulted an operation in order runs its body (R229, R239). -/
theorem exec_of_inOrder (agent : Agent) (i : Instr) (s : State) (hf : s.faulted = false)
    (h : operationInOrder agent i s = true) : exec i s = .next (bodyOf i s) := by
  obtain ⟨hw, hc⟩ := operationInOrder_passes agent i s h
  rw [exec_eq, if_pos hw, afterChecks_of_pass i s _ hf hc]

end Sys2Proof.Machine
end

