-- ==== Sys2Proof/Laws/PerInstr.lean ====
section
/-! SUPPORT. The statements made instruction by instruction: the command word of a well-formed operation is one
of the 16 legal ones (R86), and it carries the operation's opcode (R83). -/

namespace Sys2Proof.Laws.EncodedCommandIsLegal

/-- A well-formed operation is sent as a legal command word that carries its opcode. -/
def Statement (i : Instr) : Prop :=
  i.wellFormed = true → (encode i).cmd ∈ legalCommandWords ∧ opField (encode i).cmd = i.opcode

theorem nop : Statement .nop := fun _ => by decide

theorem cfgWrite (idx : BitVec 4) (value : Word) : Statement (.cfgWrite idx value) := by
  refine fun h => ⟨?_, opField_encode _⟩
  simp only [Instr.wellFormed] at h
  simp only [encode, Instr.highBits, Instr.opcode]
  revert h
  revert idx
  decide

theorem cfgCommit : Statement .cfgCommit := fun _ => by decide

theorem arm (packet : Word) : Statement (.arm packet) :=
  fun _ => ⟨by simp only [encode, Instr.highBits, Instr.opcode]; decide, opField_encode _⟩

theorem tick (now : Word) : Statement (.tick now) :=
  fun _ => ⟨by simp only [encode, Instr.highBits, Instr.opcode]; decide, opField_encode _⟩

theorem query (selector : Word) : Statement (.query selector) :=
  fun _ => ⟨by simp only [encode, Instr.highBits, Instr.opcode]; decide, opField_encode _⟩

theorem classify (measured : Word) : Statement (.classify measured) :=
  fun _ => ⟨by simp only [encode, Instr.highBits, Instr.opcode]; decide, opField_encode _⟩

theorem rxStart (timeout now : Word) : Statement (.rxStart timeout now) :=
  fun _ => ⟨by simp only [encode, Instr.highBits, Instr.opcode]; decide, opField_encode _⟩

theorem rxCheck (now : Word) : Statement (.rxCheck now) :=
  fun _ => ⟨by simp only [encode, Instr.highBits, Instr.opcode]; decide, opField_encode _⟩

theorem rxPulse (measured now : Word) : Statement (.rxPulse measured now) :=
  fun _ => ⟨by simp only [encode, Instr.highBits, Instr.opcode]; decide, opField_encode _⟩

end Sys2Proof.Laws.EncodedCommandIsLegal
end

