-- ==== Sys2Proof/Machine/Assembler.lean ====
section
/-! DEFINITION. The assembler syntax, the pseudo-instructions and the listing form (R92, R93; log entry 13).
A line is a list of characters; assembling it gives the transactions it stands for, or none where it is not
one of the forms of R92 and R93. -/

namespace Sys2Proof.Machine

/-- A space or a tab. -/
def isBlank (c : Char) : Bool := c == ' ' || c == '\t'

/-- The text without blanks at either end. -/
def trimBlanks (cs : List Char) : List Char :=
  ((cs.dropWhile isBlank).reverse.dropWhile isBlank).reverse

/-- The text before the comment that `;` starts (R92). -/
def stripComment (cs : List Char) : List Char := cs.takeWhile (fun c => c != ';')

/-- The operands, split at the commas outside parentheses; `acc` holds the current one reversed. -/
def splitOperands : Nat → List Char → List Char → List (List Char)
  | _, acc, [] => [trimBlanks acc.reverse]
  | depth, acc, c :: rest =>
    if c == ',' && depth == 0 then trimBlanks acc.reverse :: splitOperands 0 [] rest
    else if c == '(' then splitOperands (depth + 1) (c :: acc) rest
    else if c == ')' then splitOperands (depth - 1) (c :: acc) rest
    else splitOperands depth (c :: acc) rest

/-- The value of a digit in any base up to 16. -/
def digitValue (c : Char) : Option Nat :=
  if '0' ≤ c ∧ c ≤ '9' then some (c.toNat - '0'.toNat)
  else if 'a' ≤ c ∧ c ≤ 'f' then some (c.toNat - 'a'.toNat + 10)
  else if 'A' ≤ c ∧ c ≤ 'F' then some (c.toNat - 'A'.toNat + 10)
  else none

/-- The value of a string of digits of the base, read on from `n`. -/
def readDigits (base : Nat) : Nat → List Char → Option Nat
  | n, [] => some n
  | n, c :: rest =>
    match digitValue c with
    | some d => if d < base then readDigits base (base * n + d) rest else none
    | none => none

/-- A number: decimal, `0x` hexadecimal or `0b` binary (R92). -/
def readNumber : List Char → Option Nat
  | [] => none
  | '0' :: 'x' :: d :: rest => readDigits 16 0 (d :: rest)
  | '0' :: 'b' :: d :: rest => readDigits 2 0 (d :: rest)
  | cs => readDigits 10 0 cs

/-- The expression `CTRL(n, c, l)`, its arguments within their fields (R24, R93). -/
def readCtrl (cs : List Char) : Option Nat :=
  if cs.take 5 = "CTRL(".toList ∧ cs.getLast? = some ')' then
    match (splitOperands 0 [] ((cs.drop 5).dropLast)).map readNumber with
    | [some n, some c, some l] => if n < 64 ∧ c < 2 ∧ l < 2 then some (ctrlValue n c l) else none
    | _ => none
  else none

/-- An operand word: a number from 0 to 2^32 - 1, or a `CTRL` expression (R92, R93). -/
def readWord (cs : List Char) : Option Word :=
  match (readNumber cs).orElse (fun _ => readCtrl cs) with
  | some n => if n < 2 ^ 32 then some (BitVec.ofNat 32 n) else none
  | none => none

/-- The index of a register name of CFG.WRITE (R85, R92). -/
def readRegister (cs : List Char) : Option (BitVec 4) :=
  if cs = "START".toList then some 0
  else if cs = "SHORT".toList then some 1
  else if cs = "LONG".toList then some 2
  else if cs = "GAP".toList then some 3
  else if cs = "IDLE".toList then some 4
  else if cs = "TOL".toList then some 5
  else if cs = "CTRL".toList then some 6
  else none

/-- The operand texts of a line; a line without operand text has none. -/
def operandTexts (cs : List Char) : List (List Char) :=
  if trimBlanks cs = [] then [] else splitOperands 0 [] cs

/-- The operations a mnemonic and its operand texts stand for (R92, R93). -/
def instrsOf (mnemonic : List Char) (operands : List (List Char)) : Option (List Instr) :=
  if mnemonic = "CFG.WRITE".toList then
    match operands with
    | [reg, value] =>
      match readRegister reg, readWord value with
      | some idx, some v => some [.cfgWrite idx v]
      | _, _ => none
    | _ => none
  else
    let args := operands.map readWord
    if mnemonic = "NOP".toList ∧ args = [] then some [.nop]
    else if mnemonic = "CFG.COMMIT".toList ∧ args = [] then some [.cfgCommit]
    else if mnemonic = "IS_ARMED".toList ∧ args = [] then some [isArmedQuery]
    else
      match args with
      | [some a] =>
        if mnemonic = "ARM".toList then some [.arm a]
        else if mnemonic = "TICK".toList then some [.tick a]
        else if mnemonic = "QUERY".toList then some [.query a]
        else if mnemonic = "CLASSIFY".toList then some [.classify a]
        else if mnemonic = "RX.CHECK".toList then some [.rxCheck a]
        else none
      | [some a, some b] =>
        if mnemonic = "RX.START".toList then some [.rxStart a b]
        else if mnemonic = "RX.PULSE".toList then some [.rxPulse a b]
        else none
      | [some start, some short, some long, some gap, some idle, some tol, some ctrl] =>
        if mnemonic = "CFG.LOAD".toList then some (cfgLoad start short long gap idle tol ctrl) else none
      | _ => none

/-- The operations of one line; an empty line or a comment alone stands for none (R92, R93). -/
def parseLine (line : List Char) : Option (List Instr) :=
  let text := trimBlanks (stripComment line)
  if text = [] then some []
  else
    let mnemonic := text.takeWhile (fun c => !isBlank c)
    instrsOf mnemonic (operandTexts (text.drop mnemonic.length))

/-- The transactions of one line (R92). -/
def assembleLine (line : List Char) : Option (List Transaction) :=
  (parseLine line).map (fun is => is.map encode)

/-- The transactions of a program, one operation a line (R92). -/
def assemble : List (List Char) → Option (List Transaction)
  | [] => some []
  | line :: rest =>
    match assembleLine line, assemble rest with
    | some ts, some more => some (ts ++ more)
    | _, _ => none

/-- A hexadecimal digit, as a listing writes it. -/
def hexDigit (n : Nat) : Char :=
  if n < 10 then Char.ofNat ('0'.toNat + n) else Char.ofNat ('A'.toNat + (n - 10))

/-- The lowest `k` hexadecimal digits of a number, the highest first. -/
def hexDigits : Nat → Nat → List Char
  | 0, _ => []
  | k + 1, n => hexDigits k (n / 16) ++ [hexDigit (n % 16)]

/-- The listing form `cmd A B` of a transaction, three hexadecimal words (R92). -/
def listing (t : Transaction) : List Char :=
  hexDigits 2 t.cmd.toNat ++ [' '] ++ hexDigits 8 t.a.toNat ++ [' '] ++ hexDigits 8 t.b.toNat

end Sys2Proof.Machine
end

