-- ==== Sys2Proof/Tests/Slice0.lean ====
section
/-! SUPPORT. The model's own tests. Every expected result is taken from the spec: the encoding table (R81 to R86),
the examples of the operations' rules, and 95_test_vectors.md. After them, one witness for each statement that has
hypotheses: a concrete state and operands that meet them. -/

namespace Sys2Proof.Tests

open Sys2Proof.Machine

-- ======== helpers ========

/-- The next state of an outcome. -/
def nextOf (o : Host.Outcome State Fault Refusal) : Option State :=
  match o with
  | .next t => some t
  | .fault _ => none
  | .refused _ => none

/-- The response of an outcome. -/
def answerOf (o : Host.Outcome State Fault Refusal) : Option Response := (nextOf o).bind (fun t => t.response)

/-- CFG-A of 95_test_vectors.md, written and not yet committed. -/
def written : State :=
  { State.reset with cfgShort := 20, cfgLong := 40, cfgGap := 10, cfgIdle := 100, cfgTol := 4, cfgCtrl := 4 }

/-- CFG-A committed. -/
def cfgA : State := { written with configValid := true }

/-- CFG-B committed: CFG-A with a start pulse of 80. -/
def cfgB : State := { cfgA with cfgStart := 80 }

/-- CFG-A after `ARM 0xA`. -/
def armedA : State := { cfgA with txArmed := true, txBuffer := 0xA, txRemaining := 4 }

/-- P1 after row 10, `TICK 0`: in the gap before bit 3. -/
def gapA : State := { armedA with txInGap := true }

/-- P1 after row 12, `TICK 10`: in the mark of bit 3. -/
def markA : State := { armedA with txRemaining := 3, txLastTime := 10, carrierEn := true }

/-- CFG-A with a receive at the given place. -/
def receiving (place : RxState) (packet : Word) (bits : BitVec 6) : State :=
  { cfgA with rxState := place, rxPacket := packet, rxBits := bits }

/-- The block after NOT_CONFIGURED, P4 row 1. -/
def faultedBlock : State := { State.reset with faulted := true, faultCode := 2 }

-- ======== decoding: words written out from R81 to R83 ========

theorem test_decode_nop : decode ⟨0b00000000#8, 7, 8⟩ = .legal .nop := by decide
theorem test_decode_cfg_write : decode ⟨0b01010001#8, 0xFFFFFFFF, 8⟩ = .legal (.cfgWrite 5 0xFFFFFFFF) := by decide
theorem test_decode_cfg_commit : decode ⟨0b00000010#8, 7, 8⟩ = .legal .cfgCommit := by decide
theorem test_decode_arm : decode ⟨0b00000011#8, 0x80000001, 8⟩ = .legal (.arm 0x80000001) := by decide
theorem test_decode_tick : decode ⟨0b00000100#8, 0xFFFFFFFC, 8⟩ = .legal (.tick 0xFFFFFFFC) := by decide
theorem test_decode_query : decode ⟨0b00000101#8, 16, 8⟩ = .legal (.query 16) := by decide
theorem test_decode_classify : decode ⟨0b00000110#8, 24, 8⟩ = .legal (.classify 24) := by decide
theorem test_decode_rx_start : decode ⟨0b00000111#8, 100, 8⟩ = .legal (.rxStart 100 8) := by decide
theorem test_decode_rx_check : decode ⟨0b00001000#8, 421, 8⟩ = .legal (.rxCheck 421) := by decide
theorem test_decode_rx_pulse : decode ⟨0b00001001#8, 44, 390⟩ = .legal (.rxPulse 44 390) := by decide

/-- R86: each of the three ways a word can be illegal, at the first and last such word. -/
theorem test_decode_illegal :
    decode ⟨0x0A, 0, 0⟩ = .illegal (.reservedOpcode 0xA) ∧ decode ⟨0xFF, 0, 0⟩ = .illegal (.reservedOpcode 0xF) ∧
    decode ⟨0x10, 0, 0⟩ = .illegal (.nonzeroZ 0 1) ∧ decode ⟨0xF9, 0, 0⟩ = .illegal (.nonzeroZ 9 0xF) ∧
    decode ⟨0x71, 0, 0⟩ = .illegal (.unmappedIndex 7) ∧ decode ⟨0xF1, 0, 0⟩ = .illegal (.unmappedIndex 15) := by
  decide

/-- The one check of well-formedness refuses the indices 7 and 15, and admits 6. -/
theorem test_unmapped_index_is_ill_formed :
    (Instr.cfgWrite 7 0).wellFormed = false ∧ (Instr.cfgWrite 15 0).wellFormed = false ∧
    (Instr.cfgWrite 6 0).wellFormed = true := by decide

/-- The table's rows: command word in bits 7..0, A above it, B above that; with 8 bits the operands are 0. -/
theorem test_table_word :
    decodeTableWord 8 0x61 = some (.cfgWrite 6 0) ∧ decodeTableWord 8 0x09 = some (.rxPulse 0 0) ∧
    decodeTableWord 72 0x00000186_0000002C_09 = some (.rxPulse 44 390) ∧ decodeTableWord 8 0x71 = none := by
  decide

/-- A placed word is what the very next step runs: `QUERY 0` after reset answers 0 (R211). -/
theorem test_placed_word_runs :
    nextOf (step (State.reset.withFetchWord 8 0x05)) =
      some { State.reset with response := some ⟨.ok, 0⟩, issuer := some .host } := by decide

/-- With nothing presented the block waits (R238). -/
theorem test_nothing_presented : nextOf (step State.reset) = some State.reset := by decide

-- ======== the assembler (R92, R93) ========

/-- R92: `ARM 0xA` is `03 0000000A 00000000`. -/
theorem test_listing :
    (assembleLine "ARM 0xA  ; the packet".toList).map (fun ts => ts.map listing) =
      some ["03 0000000A 00000000".toList] := by decide

/-- R93: CFG.LOAD and CTRL; P3 row 7 is `61 00000104 00000000`. -/
theorem test_cfg_load :
    (assembleLine "CFG.LOAD 80, 20, 40, 10, 100, 4, CTRL(4, 1, 0)".toList).map (fun ts => (ts.drop 6).map listing) =
      some ["61 00000104 00000000".toList, "02 00000000 00000000".toList] := by decide

-- ======== one step each, from the spec's examples ========

/-- 2.6: NOP after reset. -/
theorem test_nop : nextOf (exec .nop State.reset) = some { State.reset with response := some ⟨.ok, 0⟩ } := by decide

/-- R111's example: `CFG.WRITE CTRL, 0xFFFFFFFF` leaves 0x33F. -/
theorem test_cfg_write_ctrl :
    nextOf (exec (.cfgWrite 6 0xFFFFFFFF) State.reset) =
      some { State.reset with cfgCtrl := 0x33F, response := some ⟨.ok, 0⟩ } := by decide

/-- R112's example: CFG-A commits. -/
theorem test_cfg_commit :
    nextOf (exec .cfgCommit written) = some { cfgA with response := some ⟨.ok, 0⟩ } := by decide

/-- R112's example: with CFG_TOL 5 the short and gap windows touch. -/
theorem test_cfg_commit_overlap :
    answerOf (exec .cfgCommit { written with cfgTol := 5 }) = some ⟨.invalidConfiguration, 0⟩ := by decide

/-- R181's example. -/
theorem test_arm : nextOf (exec (.arm 0xA) cfgA) = some { armedA with response := some ⟨.ok, 0⟩ } := by decide

/-- P1 row 15: a second ARM is rejected and changes nothing. -/
theorem test_arm_again :
    nextOf (exec (.arm 5) markA) = some { markA with response := some ⟨.rearmRejected, 0⟩ } := by decide

/-- R182's example, P1 row 12. -/
theorem test_tick_mark : nextOf (exec (.tick 10) gapA) = some { markA with response := some ⟨.ok, 4⟩ } := by decide

/-- P5 rows 11 and 12: elapsed time across the wrap. -/
theorem test_tick_wrap :
    answerOf (exec (.tick 0xFFFFFFFE) { gapA with txLastTime := 0xFFFFFFFC }) = some ⟨.ok, 0⟩ ∧
    answerOf (exec (.tick 6) { gapA with txLastTime := 0xFFFFFFFC }) = some ⟨.ok, 4⟩ := by decide

/-- R211's example and P1: STATUS in the mark of bit 3. -/
theorem test_query_status : answerOf (exec (.query 0) markA) = some ⟨.ok, 0x345⟩ := by decide

/-- R137's example. -/
theorem test_classify :
    answerOf (exec (.classify 24) cfgB) = some ⟨.ok, 2⟩ ∧ answerOf (exec (.classify 25) cfgB) = some ⟨.ok, 0⟩ ∧
    answerOf (exec (.classify 76) cfgB) = some ⟨.ok, 1⟩ := by decide

/-- R152's example. -/
theorem test_rx_start :
    nextOf (exec (.rxStart 100 0) cfgA) =
      some { cfgA with rxTimeout := 100, rxState := .head, response := some ⟨.ok, 0⟩ } := by decide

/-- R153's example. -/
theorem test_rx_check_done :
    nextOf (exec (.rxCheck 421) (receiving .head 0xA 4)) =
      some { receiving .idle 0xA 4 with response := some ⟨.rxDoneOk, 0xA⟩ } := by decide

/-- P3 row 22: 101 is past a timeout of 100; 100 is not. -/
theorem test_rx_check_timeout :
    answerOf (exec (.rxCheck 101) { receiving .head 5 5 with rxTimeout := 100 }) = some ⟨.rxTimeout, 0⟩ ∧
    answerOf (exec (.rxCheck 100) { receiving .head 5 5 with rxTimeout := 100 }) = some ⟨.rxContinue, 0⟩ := by decide

/-- R156's example. -/
theorem test_rx_pulse_one :
    nextOf (exec (.rxPulse 44 390) (receiving .wait 0b10 2)) =
      some { receiving .head 0b101 3 with rxLastAccept := 390, response := some ⟨.ok, 3⟩ } := by decide

/-- P2 row 21: an idle reset keeps RX_LAST_ACCEPT. -/
theorem test_rx_pulse_idle_reset :
    nextOf (exec (.rxPulse 0 300) { receiving .wait 5 3 with rxLastAccept := 130 }) =
      some { receiving .head 0 0 with rxLastAccept := 130, response := some ⟨.ok, 4⟩ } := by decide

/-- 2.7: the word 0x71 in a mark raises ILLEGAL_COMMAND and turns the carrier off; STATUS is then 0x01000325 with
packet 0xF, and the same here with packet 0xA. -/
theorem test_illegal_word :
    (nextOf (serveTransaction ⟨0x71, 0, 0⟩ markA)).map (fun t => (t.response, statusWord t)) =
      some (some ⟨.fault, 1⟩, 0x01000325) := by decide

/-- P4 rows 1 to 6. -/
theorem test_fault_is_sticky :
    nextOf (exec (.arm 1) State.reset) = some { faultedBlock with response := some ⟨.fault, 2⟩ } ∧
    nextOf (exec (.tick 10) faultedBlock) = some { faultedBlock with response := some ⟨.fault, 1⟩ } ∧
    nextOf (exec .cfgCommit faultedBlock) = some { faultedBlock with response := some ⟨.fault, 2⟩ } ∧
    answerOf (exec (.query 0) faultedBlock) = some ⟨.ok, 0x02000020⟩ ∧
    answerOf (serveTransaction ⟨0x0A, 0, 0⟩ faultedBlock) = some ⟨.fault, 2⟩ := by decide

/-- R239: two TICKs of one phase are less than 2^32 apart. TICKs at 0, 2^32 - 2 and 2^32 + 5 break it in a gap of
2^32 - 1 that began at 0, though each comes less than 2^32 after the one before it; a last one at 2^32 - 1 keeps it. -/
theorem test_phase_times :
    let long : State := { gapA with cfgGap := 0xFFFFFFFF }
    let ticks := fun last : Nat =>
      ([4294967294, last] : List Nat).map (fun m => (⟨.tickSource, .tick (timestamp m), m⟩ : TimedOp))
    phaseTimesKept (some 0) long (ticks 4294967301) = false ∧
    phaseTimesKept (some 0) long (ticks 4294967295) = true ∧
    timesFromTimeBase (ticks 4294967301) = true ∧ tickMoments (ticks 4294967301) = [4294967294, 4294967301] := by
  decide

/-- R239: a duty broken in each way the block catches is out of order. -/
theorem test_out_of_order :
    operationInOrder .host (.arm 1) State.reset = false ∧ operationInOrder .host (.arm 1) armedA = false ∧
    operationInOrder .host (.rxStart 0 0) armedA = false ∧ operationInOrder .host (.tick 0) cfgA = false ∧
    operationInOrder .tickSource .nop cfgA = false ∧ operationInOrder .host (.cfgWrite 0 1) cfgA = false := by decide

/-- R164: the loop goes on past an RX.CHECK that answers FAULT. -/
theorem test_receive_of_a_faulted_block :
    (receive 5 0 [⟨10, 20, 11⟩, ⟨12, 20, 13⟩] State.reset).1 = .waiting := by decide

-- ======== witnesses: the hypotheses of each statement can be met ========

theorem witness_DecodeOfEncodeIsIdentity :
    (Instr.cfgWrite 6 0xFFFFFFFF).wellFormed = true ∧ (Instr.rxPulse 0 0xFFFFFFFF).wellFormed = true := by decide

theorem witness_DecodedOperationSpellsItsWordsAndIgnoresTheRest :
    decode ⟨0x04, 1, 2⟩ = .legal (.tick 1) ∧ ((0x04 : CommandWord) ≠ 0x00 ∧ (0x04 : CommandWord) ≠ 0x02) ∧
    ((0x04 : CommandWord) ≠ 0x07 ∧ (0x04 : CommandWord) ≠ 0x09) ∧
    decode ⟨0x07, 1, 2⟩ = .legal (.rxStart 1 2) ∧ decode ⟨0x09, 1, 2⟩ = .legal (.rxPulse 1 2) ∧
    decode ⟨0x00, 1, 2⟩ = .legal .nop ∧ decode ⟨0x02, 1, 2⟩ = .legal .cfgCommit := by decide

theorem witness_SixteenLegalWordsAndEveryOtherFaults :
    (∀ i, decode ⟨0x71, 0, 0⟩ ≠ .legal i) ∧ (∀ i, decode ⟨0x0A, 0, 0⟩ ≠ .legal i) ∧
    (∀ i, decode ⟨0x10, 0, 0⟩ ≠ .legal i) ∧ State.reset.faulted = false := by
  have h1 : decode ⟨0x71, 0, 0⟩ = .illegal (.unmappedIndex 7) := by decide
  have h2 : decode ⟨0x0A, 0, 0⟩ = .illegal (.reservedOpcode 0xA) := by decide
  have h3 : decode ⟨0x10, 0, 0⟩ = .illegal (.nonzeroZ 0 1) := by decide
  rw [h1, h2, h3]
  simp [State.reset]

theorem witness_StepRunsTheDecodedOperation :
    let t : Transaction := ⟨0x04, 1, 2⟩
    let fromHost : State := { State.reset with hostQueue := [.transaction t] }
    let fromTick : State := { State.reset with tickQueue := [.transaction t] }
    let both : State := { State.reset with hostQueue := [.transaction t], tickQueue := [.transaction t] }
    decode t = .legal (.tick 1) ∧ (Instr.tick 1).wellFormed = true ∧
    (fromHost.hostQueue = .transaction t :: [] ∧ fromHost.tickQueue = []) ∧
    (fromTick.tickQueue = .transaction t :: [] ∧ fromTick.hostQueue = []) ∧
    (both.hostQueue = .transaction t :: [] ∧ both.tickQueue = .transaction t :: []) := by decide

theorem witness_EachStepTakesTheOldestInputOfOneAgent :
    (∃ t, step State.reset = .next t) ∧
    (∃ t, step { State.reset with hostQueue := [.transaction ⟨0, 0, 0⟩] } = .next t) ∧
    (∃ t, step { State.reset with tickQueue := [.reset] } = .next t) := ⟨⟨_, rfl⟩, ⟨_, rfl⟩, ⟨_, rfl⟩⟩

theorem witness_EveryOperationGetsExactlyOneResponse :
    (∃ t, exec (.tick 0) gapA = .next t) ∧ (∃ t, exec (.tick 0) faultedBlock = .next t) := ⟨⟨_, rfl⟩, ⟨_, rfl⟩⟩

theorem witness_NopAnswersAndChangesNothing :
    State.reset.faulted = false ∧ faultedBlock.faulted = true := by decide

theorem witness_QueryReadsTheSelectorMap :
    let s := markA
    let map : List (Word × Word) :=
      [(0, statusWord s), (1, s.cfgStart), (2, s.cfgShort), (3, s.cfgLong), (4, s.cfgGap), (5, s.cfgIdle),
        (6, s.cfgTol), (7, s.cfgCtrl), (8, s.txBuffer), (9, s.txRemaining.setWidth 32), (10, s.txLastTime),
        (11, s.rxPacket), (12, s.rxBits.setWidth 32), (13, s.rxStartTime), (14, s.rxTimeout),
        (15, s.rxLastAccept), (16, s.faultCode.setWidth 32)]
    (0, 0x345) ∈ map ∧ (9, 3) ∈ map ∧ (16, 0) ∈ map ∧ 17 ≤ (17 : Word).toNat ∧
    17 ≤ (0xFFFFFFFF : Word).toNat := by decide

theorem witness_QueryReadsEveryRegister :
    ∀ a : Word, readSelector a markA = readSelector a { markA with response := some ⟨.ok, 0⟩ } := fun _ => rfl

theorem witness_OperationsDependOnTheRegistersAlone : ∃ t, exec (.tick 10) gapA = .next t := ⟨_, rfl⟩

theorem witness_CfgWriteSetsOneRegister :
    State.reset.faulted = false ∧ State.reset.configValid = false ∧ 7 ≤ (7 : BitVec 4).toNat ∧
    7 ≤ (15 : BitVec 4).toNat := by decide

theorem witness_CfgCommitValidatesTheConfiguration :
    written.faulted = false ∧ written.configValid = false ∧ configOk written = true ∧
    State.reset.faulted = false ∧ State.reset.configValid = false ∧ configOk State.reset = false := by decide

/-- CFG-B satisfies every condition of a valid configuration, the one on a start pulse among them. -/
theorem witness_ValidConfigurationsAreExactlyTheseOnes : configOk cfgB = true ∧ cfgB.cfgStart ≠ 0 := by decide

theorem witness_OverlapMeansTheWindowsShareAPoint :
    windowsOverlap 5 20 10 = true ∧ windowsOverlap 4 20 10 = false ∧ windowsOverlap 0 7 7 = true := by decide

theorem witness_CommittedConfigurationIsImmutable :
    cfgA.configValid = true ∧ (∃ t, serveTransaction ⟨0x61, 0, 0⟩ cfgA = .next t) ∧ cfgA.faulted = false ∧
    (0 : BitVec 4).toNat ≤ 6 ∧ (6 : BitVec 4).toNat ≤ 6 := ⟨by decide, ⟨_, rfl⟩, by decide, by decide, by decide⟩

theorem witness_BootSequenceConfiguresTheBlock :
    State.reset.faulted = false ∧ State.reset.configValid = false ∧
    configOk
        { State.reset with
          cfgStart := 80, cfgShort := 20, cfgLong := 40, cfgGap := 10, cfgTol := 4,
          cfgCtrl := (0x104 : Word) &&& 0x33F } = true := by decide

/-- A duration between two bounds of CFG-B's windows, as the statement writes it. -/
abbrev within (s : State) (d ref : Word) : Prop :=
  (ref.toNat : Int) - s.cfgTol.toNat ≤ (d.toNat : Int) ∧ (d.toNat : Int) ≤ (ref.toNat : Int) + s.cfgTol.toNat

/-- Each clause at a boundary of its window, and START disabled in CFG-A. -/
theorem witness_ClassifyReportsTheFirstWindow :
    (cfgB.faulted = false ∧ cfgB.configValid = true) ∧
    (cfgB.cfgStart ≠ 0 ∧ within cfgB 76 cfgB.cfgStart) ∧
    (¬(cfgB.cfgStart ≠ 0 ∧ within cfgB 24 cfgB.cfgStart) ∧ within cfgB 24 cfgB.cfgShort) ∧
    (¬(cfgB.cfgStart ≠ 0 ∧ within cfgB 44 cfgB.cfgStart) ∧ ¬within cfgB 44 cfgB.cfgShort ∧
      within cfgB 44 cfgB.cfgLong) ∧
    (¬(cfgB.cfgStart ≠ 0 ∧ within cfgB 75 cfgB.cfgStart) ∧ ¬within cfgB 75 cfgB.cfgShort ∧
      ¬within cfgB 75 cfgB.cfgLong) ∧
    (¬(cfgA.cfgStart ≠ 0 ∧ within cfgA 0 cfgA.cfgStart) ∧ within cfgA 16 cfgA.cfgShort) := by decide

theorem witness_EveryWindowHasItsSymbol :
    configOk cfgB = true ∧
    (cfgB.cfgStart ≠ 0 ∧ cfgB.cfgStart.toNat ≤ (76 : Word).toNat + cfgB.cfgTol.toNat ∧
      (84 : Word).toNat ≤ cfgB.cfgStart.toNat + cfgB.cfgTol.toNat) ∧
    (cfgB.cfgShort.toNat ≤ (16 : Word).toNat + cfgB.cfgTol.toNat ∧
      (24 : Word).toNat ≤ cfgB.cfgShort.toNat + cfgB.cfgTol.toNat) ∧
    (cfgB.cfgLong.toNat ≤ (36 : Word).toNat + cfgB.cfgTol.toNat ∧
      (44 : Word).toNat ≤ cfgB.cfgLong.toNat + cfgB.cfgTol.toNat) ∧
    (cfgB.configValid = true ∧ ∃ t, exec (.cfgWrite 1 30) cfgB = .next t) :=
  ⟨by decide, by decide, by decide, by decide, by decide, ⟨_, rfl⟩⟩

theorem witness_GapPulseIsUnrecognized :
    configOk cfgB = true ∧ cfgB.cfgGap.toNat ≤ (6 : Word).toNat + cfgB.cfgTol.toNat ∧
    (14 : Word).toNat ≤ cfgB.cfgGap.toNat + cfgB.cfgTol.toNat := by decide

theorem witness_ZeroDurationAndDisabledStart :
    cfgA.cfgStart = 0 ∧ classify 0 cfgA = .unrecognized ∧ classify 0 { cfgA with cfgTol := 20 } ≠ .unrecognized := by
  decide

theorem witness_RxStartBeginsAReceive :
    cfgA.faulted = false ∧ cfgA.configValid = true ∧ cfgA.txArmed = false ∧ cfgA.rxState = .idle := by decide

/-- Complete; expired at 101 and not at 100 with a timeout of 100; and without a deadline. -/
theorem witness_RxCheckDecidesTheLoop :
    let full := receiving .head 0xA 4
    let late : State := { receiving .head 5 3 with rxTimeout := 100 }
    (full.faulted = false ∧ full.configValid = true ∧ full.rxState = .head ∧
      (full.hasChecksum = false ∨ Config.checksumValid full.rxPacket = true) ∧ full.rxBits = full.packetBits) ∧
    (late.faulted = false ∧ late.configValid = true ∧ late.rxState = .head ∧
      ¬((late.hasChecksum = false ∨ Config.checksumValid late.rxPacket = true) ∧ late.rxBits = late.packetBits) ∧
      late.rxTimeout ≠ 0 ∧ late.rxTimeout.toNat < ((101 : Word) - late.rxStartTime).toNat ∧
      ¬(late.rxTimeout.toNat < ((100 : Word) - late.rxStartTime).toNat)) ∧
    (receiving .head 5 3).rxTimeout = 0 := by decide

theorem witness_RxPulseUpdatesTheAccumulator :
    let s : State := { cfgB with rxState := .wait, rxPacket := 5, rxBits := 3 }
    s.faulted = false ∧ s.configValid = true ∧ s.rxState = .wait ∧ classify 84 s = .start ∧
    classify 16 s = .zero ∧ classify 36 s = .one ∧ classify 0 s = .unrecognized ∧
    s.cfgIdle.toNat < ((101 : Word) - s.rxLastAccept).toNat ∧
    ((100 : Word) - s.rxLastAccept).toNat ≤ s.cfgIdle.toNat := by decide

theorem witness_ReceiveStateMovesOnlyAlongTheLoop :
    (∃ t, exec (.rxStart 0 0) cfgA = .next t ∧ t.rxState ≠ cfgA.rxState) ∧
    (∃ t, exec (.rxCheck 0) (receiving .head 0 0) = .next t ∧ t.rxState ≠ .head) ∧
    (∃ t, exec (.rxPulse 0 0) (receiving .wait 0 0) = .next t ∧ t.rxState ≠ .wait) ∧
    ((receiving .head 0 0).faulted = false ∧ (receiving .head 0 0).configValid = true ∧
      (receiving .head 0 0).txArmed = false ∧ (receiving .head 0 0).rxState ≠ .idle ∧
      (receiving .head 0 0).rxState ≠ .wait) ∧
    (cfgA.faulted = false ∧ cfgA.configValid = true ∧ cfgA.rxState ≠ .head) :=
  ⟨⟨_, rfl, by decide⟩, ⟨_, rfl, by decide⟩, ⟨_, rfl, by decide⟩, by decide, by decide⟩

/-- The four pulses of 0b1010 in CFG-A, with no deadline and within a timeout of exactly the last check's time. -/
theorem witness_ReceivedBitsAreMostSignificantFirst :
    let samples : List Sample := [⟨1, 40, 50⟩, ⟨51, 20, 80⟩, ⟨81, 44, 130⟩, ⟨131, 16, 160⟩]
    cfgA.faulted = false ∧ cfgA.configValid = true ∧ cfgA.txArmed = false ∧ cfgA.rxState = .idle ∧
    cfgA.hasChecksum = false ∧ 1 ≤ cfgA.packetBits.toNat ∧ cfgA.packetBits.toNat ≤ 32 ∧
    [true, false, true, false].length = cfgA.packetBits.toNat ∧
    List.Forall₂ (fun (x : Sample) (b : Bool) => classify x.measured cfgA = if b then .one else .zero)
      samples [true, false, true, false] ∧
    (∀ x ∈ samples, elapsed x.checkNow 0 ≤ 131) :=
  ⟨by decide, by decide, by decide, by decide, by decide, by decide, by decide, by decide,
    .cons (by decide) (.cons (by decide) (.cons (by decide) (.cons (by decide) .nil))), by decide⟩

/-- With and without a checksum. -/
theorem witness_ReceiveProcedureIsTheSourceLoop :
    let s : State := { cfgB with cfgCtrl := 0x104 }
    (cfgA.faulted = false ∧ cfgA.configValid = true ∧ cfgA.txArmed = false ∧ cfgA.rxState = .idle ∧
      1 ≤ cfgA.packetBits.toNat ∧ cfgA.packetBits.toNat ≤ 32) ∧
    (s.faulted = false ∧ s.configValid = true ∧ s.txArmed = false ∧ s.rxState = .idle ∧ s.hasChecksum = true ∧
      1 ≤ s.packetBits.toNat ∧ s.packetBits.toNat ≤ 32) := by decide

theorem witness_UnboundedReceiveNeverEnds :
    cfgA.faulted = false ∧ cfgA.configValid = true ∧ cfgA.txArmed = false ∧ cfgA.rxState = .idle ∧
    1 ≤ cfgA.packetBits.toNat ∧
    (∀ x ∈ ([⟨1, 0, 2⟩, ⟨3, 25, 4⟩] : List Sample), classify x.measured cfgA = .unrecognized) := by decide

/-- Faulted, not configured, armed, and already receiving. -/
theorem witness_FaultedReceiveLoopsOn :
    faultedBlock.faulted = true ∧ written.configValid = false ∧ armedA.txArmed = true ∧
    (receiving .head 0 0).rxState ≠ .idle := by decide

theorem witness_OvershotReceiveCompletesOnlyAfterAReset :
    cfgA.packetBits.toNat ≤ 32 ∧
    ((receiving .wait 0xA 4).faulted = false ∧ (receiving .wait 0xA 4).rxBits = (receiving .wait 0xA 4).packetBits ∧
      (∃ t, exec (.rxPulse 20 0) (receiving .wait 0xA 4) = .next t ∧ t.response = some ⟨.ok, 2⟩) ∧
      (∃ t, exec (.rxPulse 40 0) (receiving .wait 0xA 4) = .next t ∧ t.response = some ⟨.ok, 3⟩)) ∧
    ((receiving .head 5 5).packetBits.toNat < (receiving .head 5 5).rxBits.toNat ∧
      ∃ t, exec (.rxCheck 0) (receiving .head 5 5) = .next t) ∧
    ((receiving .wait 5 63).packetBits.toNat < (receiving .wait 5 63).rxBits.toNat ∧
      ∃ t, exec (.rxPulse 40 0) (receiving .wait 5 63) = .next t) :=
  ⟨by decide, ⟨by decide, by decide, ⟨_, rfl, by decide⟩, ⟨_, rfl, by decide⟩⟩, ⟨by decide, _, rfl⟩,
    ⟨by decide, _, rfl⟩⟩

theorem witness_ArmTakesAPacketOnlyWhenNotArmed :
    (cfgA.faulted = false ∧ cfgA.configValid = true ∧ cfgA.rxState = .idle ∧ cfgA.txArmed = false) ∧
    (armedA.faulted = false ∧ armedA.configValid = true ∧ armedA.rxState = .idle ∧ armedA.txArmed = true) := by
  decide

theorem witness_TickWhenNotArmedIsIdempotent : cfgA.faulted = false ∧ cfgA.txArmed = false := by decide

theorem witness_TickWithNoBitsLeftCompletes :
    let s : State := { markA with txRemaining := 0 }
    s.faulted = false ∧ s.txArmed = true ∧ s.txRemaining = 0 := by decide

/-- The last moment of a gap of 10, of a One of 40 and of a Zero of 20. -/
theorem witness_TickWithinAPhaseHolds :
    let zero : State := { markA with txRemaining := 2 }
    (gapA.faulted = false ∧ gapA.txArmed = true ∧ gapA.txRemaining ≠ 0 ∧ gapA.txInGap = true ∧
      ((9 : Word) - gapA.txLastTime).toNat < gapA.cfgGap.toNat) ∧
    (markA.faulted = false ∧ markA.txArmed = true ∧ markA.txRemaining ≠ 0 ∧ markA.txInGap = false ∧
      markA.txRemaining ≠ markA.packetBits ∧ markA.txBuffer.getLsbD markA.txRemaining.toNat = true ∧
      ((49 : Word) - markA.txLastTime).toNat < markA.cfgLong.toNat) ∧
    (zero.faulted = false ∧ zero.txArmed = true ∧ zero.txRemaining ≠ 0 ∧ zero.txInGap = false ∧
      zero.txRemaining ≠ zero.packetBits ∧ zero.txBuffer.getLsbD zero.txRemaining.toNat = false ∧
      ((29 : Word) - zero.txLastTime).toNat < zero.cfgShort.toNat) := by decide

/-- The pre-phase, and the first moment past a One of 40 and past a Zero of 20. -/
theorem witness_TickPastAMarkEntersTheGap :
    let zero : State := { markA with txRemaining := 2 }
    (armedA.faulted = false ∧ armedA.txArmed = true ∧ armedA.txRemaining ≠ 0 ∧ armedA.txInGap = false ∧
      armedA.txRemaining = armedA.packetBits) ∧
    (markA.faulted = false ∧ markA.txArmed = true ∧ markA.txRemaining ≠ 0 ∧ markA.txInGap = false ∧
      markA.txBuffer.getLsbD markA.txRemaining.toNat = true ∧
      markA.cfgLong.toNat ≤ ((50 : Word) - markA.txLastTime).toNat) ∧
    (zero.faulted = false ∧ zero.txArmed = true ∧ zero.txRemaining ≠ 0 ∧ zero.txInGap = false ∧
      zero.txBuffer.getLsbD zero.txRemaining.toNat = false ∧
      zero.cfgShort.toNat ≤ ((30 : Word) - zero.txLastTime).toNat) := by decide

theorem witness_TickPastAGapEntersTheMark :
    gapA.faulted = false ∧ gapA.txArmed = true ∧ gapA.txRemaining ≠ 0 ∧ gapA.txInGap = true ∧
    gapA.cfgGap.toNat ≤ ((10 : Word) - gapA.txLastTime).toNat := by decide

/-- HOLD, a mark, GAP, OFF with done, and OFF when not armed. -/
theorem witness_CarrierFollowsTheEmittedCommand :
    (gapA.faulted = false ∧ (∃ t, exec (.tick 9) gapA = .next t ∧ t.response = some holdResponse) ∧
      ∃ t, exec (.tick 10) gapA = .next t ∧ t.response = some (markResponse true)) ∧
    (markA.faulted = false ∧ (∃ t, exec (.tick 50) markA = .next t ∧ t.response = some gapResponse) ∧
      ∃ t, exec (.tick 50) { markA with txRemaining := 0 } = .next t ∧ t.response = some doneResponse) ∧
    (cfgA.faulted = false ∧ ∃ t, exec (.tick 50) cfgA = .next t ∧ t.response = some offResponse) :=
  ⟨⟨by decide, ⟨_, rfl, by decide⟩, _, rfl, by decide⟩, ⟨by decide, ⟨_, rfl, by decide⟩, _, rfl, by decide⟩,
    by decide, _, rfl, by decide⟩

theorem witness_OnlyArmAndTickWriteTheTransmitter :
    (∀ p, Instr.rxStart 0 0 ≠ .arm p) ∧ (∀ now, Instr.rxStart 0 0 ≠ .tick now) ∧
    ∃ t, exec (.rxStart 0 0) markA = .next t := ⟨by simp, by simp, _, rfl⟩

theorem witness_OnlyTheCompletingTickDisarms :
    (markA.txArmed = true ∧ (∃ t, exec (.arm 5) markA = .next t) ∧ markA.faulted = false ∧
      markA.configValid = true ∧ markA.rxState = .idle) ∧
    (∃ t, exec (.tick 0) { markA with txRemaining := 0 } = .next t ∧ t.txArmed = false) :=
  ⟨⟨by decide, ⟨_, rfl⟩, by decide, by decide, by decide⟩, ⟨_, rfl, by decide⟩⟩

theorem witness_ArmedCycleEmitsEveryBitOnce :
    armedA.faulted = false ∧ armedA.txArmed = true ∧ armedA.txInGap = false ∧
    armedA.txRemaining = armedA.packetBits ∧ 1 ≤ armedA.packetBits.toNat := by decide

theorem witness_PacedTicksCompleteTheCycle :
    armedA.faulted = false ∧ armedA.txArmed = true ∧ armedA.txInGap = false ∧
    armedA.txRemaining = armedA.packetBits ∧ 1 ≤ armedA.packetBits.toNat ∧
    ticksPaced armedA [0, 40, 80, 120, 160, 200, 240, 280, 320] ∧
    ([0, 40, 80, 120, 160, 200, 240, 280, 320] : List Word).length = 2 * armedA.packetBits.toNat + 1 :=
  ⟨by decide, by decide, by decide, by decide, by decide, by simp only [ticksPaced]; decide, by decide⟩

/-- The TICKs of P1, every 5. -/
theorem witness_EvenTicksGiveTheWaveform :
    armedA.faulted = false ∧ armedA.txArmed = true ∧ armedA.txInGap = false ∧
    armedA.txRemaining = armedA.packetBits ∧ 1 ≤ armedA.packetBits.toNat ∧ (5 : Word) ≠ 0 ∧
    phaseTicks armedA.cfgGap 5 * (5 : Word).toNat < 2 ^ 32 ∧
    phaseTicks armedA.cfgShort 5 * (5 : Word).toNat < 2 ^ 32 ∧
    phaseTicks armedA.cfgLong 5 * (5 : Word).toNat < 2 ^ 32 := by decide

theorem witness_HighPacketBitsAreNeverSent :
    gapA.txRemaining.toNat ≤ gapA.packetBits.toNat ∧
    (∀ k, k < gapA.packetBits.toNat → (0xFFFFFFFA : Word).getLsbD k = gapA.txBuffer.getLsbD k) ∧
    ∃ t, exec (.tick 10) gapA = .next t := ⟨by decide, by decide, _, rfl⟩

theorem witness_PolarityChangesNoOperation :
    (∀ a, Instr.tick 10 ≠ .query a) ∧ (∀ idx v, Instr.tick 10 ≠ .cfgWrite idx v) ∧
    ∃ t, exec (.tick 10) gapA = .next t := ⟨by simp, by simp, _, rfl⟩

/-- A state of each kind: idle, pre-phase, gap, mark, and the implicit Done. -/
theorem witness_TransmitterIsInOneSourceState :
    State.Inv cfgA ∧ State.Inv armedA ∧ State.Inv gapA ∧ State.Inv markA ∧
    State.Inv { markA with txRemaining := 0 } ∧ txDone { markA with txRemaining := 0 } = true :=
  ⟨by constructor <;> decide, by constructor <;> decide, by constructor <;> decide, by constructor <;> decide,
    by constructor <;> decide, by decide⟩

theorem witness_UnconfiguredOperationsFault :
    written.faulted = false ∧ written.configValid = false ∧ (∃ p, Instr.arm 1 = .arm p) ∧
    (∃ a b, Instr.rxPulse 1 2 = .rxPulse a b) ∧ (Instr.cfgWrite 6 0).wellFormed = true ∧
    (∃ t, exec (.cfgWrite 6 0) written = .next t) :=
  ⟨by decide, by decide, ⟨1, rfl⟩, ⟨1, 2, rfl⟩, by decide, ⟨_, rfl⟩⟩

theorem witness_HalfDuplexViolationsFault :
    (armedA.faulted = false ∧ armedA.configValid = true ∧ armedA.txArmed = true) ∧
    ((receiving .wait 0 0).faulted = false ∧ (receiving .wait 0 0).configValid = true ∧
      (receiving .wait 0 0).rxState ≠ .idle) := by decide

theorem witness_FaultEntryHasNoOtherEffect :
    markA.faulted = false ∧ ∃ t, serveTransaction ⟨0x71, 0, 0⟩ markA = .next t ∧ t.faulted = true :=
  ⟨by decide, _, rfl, by decide⟩

theorem witness_FaultedBlockAnswers :
    faultedBlock.faulted = true ∧ decode ⟨0x05, 16, 0⟩ = .legal (.query 16) ∧
    decode ⟨0x04, 10, 0⟩ = .legal (.tick 10) ∧
    ((∀ a, decode ⟨0x02, 0, 0⟩ ≠ .legal (.query a)) ∧ (∀ now, decode ⟨0x02, 0, 0⟩ ≠ .legal (.tick now))) := by
  have h : decode ⟨0x02, 0, 0⟩ = .legal .cfgCommit := by decide
  rw [h]
  exact ⟨by decide, by decide, by decide, by simp, by simp⟩

theorem witness_OnlyResetLeavesTheFaultedState :
    faultedBlock.faulted = true ∧
    (∃ t, step { faultedBlock with tickQueue := [.transaction ⟨0x04, 10, 0⟩] } = .next t) ∧
    (∃ t, step { faultedBlock with hostQueue := [.reset] } = .next t) := ⟨by decide, ⟨_, rfl⟩, ⟨_, rfl⟩⟩

theorem witness_RejectionsChangeNoState :
    (∃ t, exec (.arm 5) markA = .next t ∧ t.response = some ⟨.rearmRejected, 0⟩) ∧
    (∃ t, exec (.cfgWrite 0 1) cfgA = .next t ∧ t.response = some ⟨.configLocked, 0⟩) ∧
    (∃ t, exec .cfgCommit State.reset = .next t ∧ t.response = some ⟨.invalidConfiguration, 0⟩) ∧
    (∃ t, exec (.rxCheck 101) { receiving .head 5 5 with rxTimeout := 100 } = .next t ∧
      t.response = some ⟨.rxTimeout, 0⟩) :=
  ⟨⟨_, rfl, by decide⟩, ⟨_, rfl, by decide⟩, ⟨_, rfl, by decide⟩, ⟨_, rfl, by decide⟩⟩

theorem witness_ResetInputSetsEveryRegister :
    let fromHost : State := { markA with hostQueue := [.reset] }
    let fromTick : State := { markA with tickQueue := [.reset] }
    let tick : Input := .transaction ⟨0x04, 10, 0⟩
    let bothHost : State := { markA with hostQueue := [.reset], tickQueue := [tick] }
    let bothTick : State := { markA with hostQueue := [tick], tickQueue := [.reset] }
    (fromHost.hostQueue = .reset :: [] ∧ fromHost.tickQueue = []) ∧
    (fromTick.tickQueue = .reset :: [] ∧ fromTick.hostQueue = []) ∧
    (bothHost.hostQueue = .reset :: [] ∧ bothHost.tickQueue = tick :: []) ∧
    (bothTick.tickQueue = .reset :: [] ∧ bothTick.hostQueue = tick :: []) := by decide

/-- A run with every kind of operation: configure, query, classify, tick, receive one bit, transmit. -/
theorem witness_RunsInOrderAreNeverTurnedAway :
    let h := fun (i : Instr) (m : Nat) => (⟨.host, i, m⟩ : TimedOp)
    State.reset.faulted = false ∧
    operationsInOrder State.reset
      ((cfgLoad 0 20 40 10 100 4 1).map (fun i => h i 0) ++
        [h .nop 1, h (.query 0) 1, h (.classify 20) 1, ⟨.tickSource, .tick 1, 1⟩, h (.rxStart 0 2) 2,
          h (.rxCheck 3) 3, h (.rxPulse 40 50) 50, h (.rxCheck 51) 51, h (.arm 1) 52, ⟨.tickSource, .tick 60, 60⟩]) =
      true := by decide

theorem witness_ElapsedTimeIsTrueBelowTheWrap : (0 : Nat) < 2 ^ 32 ∧ 2 ^ 32 - 1 < 2 ^ 32 ∧ 0 < 2 ^ 32 - 1 := by
  decide

/-- The invariant holds in the mark of bit 3, and a TICK there has a next state. -/
theorem witness_EveryStepKeepsTheInvariant :
    State.Inv { markA with tickQueue := [.transaction ⟨0x04, 50, 0⟩] } ∧
    ∃ t, step { markA with tickQueue := [.transaction ⟨0x04, 50, 0⟩] } = .next t :=
  ⟨by constructor <;> decide, _, rfl⟩

end Sys2Proof.Tests
end

