-- ==== Sys2Proof/Proofs/Scope.lean ====
section
/-! PROOFS. The scope's two statements: one response to every operation (R11), and elapsed time across the wrap of
the time base (R9, R234, R262). -/

namespace Sys2Proof.Machine

-- ======== elapsed time ========

/-- A later moment's timestamp is the earlier one's plus the time between them, modulo 2^32 (R234). -/
theorem timestamp_add (a d : Nat) : timestamp (a + d) = timestamp a + timestamp d := BitVec.ofNat_add a d

/-- Below 2^32 a moment is its own timestamp. -/
theorem timestamp_toNat_of_lt {d : Nat} (hd : d < 2 ^ 32) : (timestamp d).toNat = d := by
  rw [timestamp, BitVec.toNat_ofNat, Nat.mod_eq_of_lt hd]

/-- The elapsed time between two timestamps depends only on the time between them, across the wrap (R9, R234). -/
theorem elapsed_timestamp_add (a d : Nat) : elapsed (timestamp (a + d)) (timestamp a) = timestamp d := by
  rw [elapsed, timestamp_add, add_sub_cancel_left]

/-- A time base that goes back is seen as the negated time, modulo 2^32 (R262). -/
theorem elapsed_timestamp_back (a d : Nat) : elapsed (timestamp a) (timestamp (a + d)) = -timestamp d := by
  rw [elapsed, timestamp_add, sub_add_cancel_left]

/-- Settles O56: elapsed time is the difference of the moments in the group of 32-bit words. -/
theorem elapsedTimeIsTrueBelowTheWrap : Obligations.ElapsedTimeIsTrueBelowTheWrap := by
  intro a d hd
  refine ⟨?_, fun hpos => ?_⟩
  · rw [elapsed_timestamp_add, timestamp_toNat_of_lt hd]
  · rw [elapsed_timestamp_back, BitVec.toNat_neg, timestamp_toNat_of_lt hd]
    exact Nat.mod_eq_of_lt (by omega)

-- ======== the response of each body ========

/-- CFG.WRITE's body answers, also when the configuration is locked (R111). -/
theorem cfgWriteBody_answers (r : CfgReg) (value : Word) (s : State) :
    (cfgWriteBody r value s).response.isSome := by
  unfold cfgWriteBody
  split <;> rfl

/-- CFG.COMMIT's body answers in each of its three outcomes (R112). -/
theorem cfgCommitBody_answers (s : State) : (cfgCommitBody s).response.isSome := by
  unfold cfgCommitBody
  split_ifs <;> rfl

/-- ARM's body answers, also when it rejects the packet (R181). -/
theorem armBody_answers (packet : Word) (s : State) : (armBody packet s).response.isSome := by
  unfold armBody
  split <;> rfl

/-- TICK's body always answers OK with a carrier command (R89, R182). -/
theorem tickBody_response (now : Word) (s : State) :
    ∃ done c, (tickBody now s).response = some ⟨.ok, tickData done c⟩ := by
  obtain ⟨-, h⟩ | ⟨-, -, h⟩ | ⟨-, -, -, h⟩ | ⟨-, -, -, -, h⟩ | ⟨-, -, -, -, h⟩ := tickBody_cases now s
  · exact ⟨false, .off, by rw [h, tickIdle_response]⟩
  · exact ⟨true, .off, by rw [h, tickComplete_response]⟩
  · exact ⟨false, .hold, by rw [h, answerTick, respond_response]⟩
  · exact ⟨false, .gap, by rw [h, enterGap_response]⟩
  · exact ⟨false, markCommand (nextBit s), by rw [h, enterMark_response]⟩

/-- RX.CHECK's body answers in each of its three outcomes (R153). -/
theorem rxCheckBody_answers (now : Word) (s : State) : (rxCheckBody now s).response.isSome := by
  obtain ⟨-, h⟩ | ⟨-, -, h⟩ | ⟨-, -, h⟩ := rxCheckBody_cases now s <;> rw [h] <;> rfl

/-- RX.PULSE's body answers for each symbol (R156). -/
theorem rxPulseBody_answers (d now : Word) (s : State) : (rxPulseBody d now s).response.isSome := by
  obtain ⟨-, h⟩ | ⟨-, h⟩ | ⟨-, h⟩ | ⟨-, -, h⟩ | ⟨-, -, h⟩ := rxPulseBody_cases d now s <;> rw [h] <;> rfl

/-- The body of every well-formed operation answers (R11). -/
theorem bodyOf_answers (i : Instr) (s : State) (hw : i.wellFormed = true) : (bodyOf i s).response.isSome := by
  cases i with
  | nop => rfl
  | cfgWrite idx value =>
    obtain ⟨r, hr⟩ := Option.isSome_iff_exists.mp ((cfgRegOfIndex_isSome idx).trans hw)
    simpa [bodyOf, hr] using cfgWriteBody_answers r value s
  | cfgCommit => exact cfgCommitBody_answers s
  | arm packet => exact armBody_answers packet s
  | tick now =>
    obtain ⟨done, c, h⟩ := tickBody_response now s
    exact Option.isSome_iff_exists.mpr ⟨_, h⟩
  | query selector => rfl
  | classify measured => rfl
  | rxStart timeout now => rfl
  | rxCheck now => exact rxCheckBody_answers now s
  | rxPulse measured now => exact rxPulseBody_answers measured now s

-- ======== the response of an operation ========

/-- An illegal command word is answered, in a faulted block too (R223, R225). -/
theorem illegalCommand_answers (s : State) : (illegalCommand s).response.isSome := by
  obtain ⟨-, h⟩ | ⟨-, h⟩ := illegalCommand_cases s <;> rw [h] <;> rfl

/-- A faulted block answers every operation whose body it does not run (R223). -/
theorem faultedAnswer_getD_answers (i : Instr) (s body : State) (hb : body.response.isSome) :
    ((faultedAnswer i s).getD body).response.isSome := by
  cases i with
  | query selector => exact hb
  | _ => rfl

/-- The checks of R229 answer wherever they do not run the body. -/
theorem afterChecks_answers (i : Instr) (s body : State) (hb : body.response.isSome) :
    (afterChecks i s body).response.isSome := by
  obtain ⟨-, -, h⟩ | ⟨-, c, -, h⟩ | ⟨-, h⟩ := afterChecks_cases i s body
  · rwa [h]
  · rw [h, raiseFault_response]; rfl
  · rw [h]; exact faultedAnswer_getD_answers i s body hb

/-- Every operation, in every state, has a next state that holds one response (R11). -/
theorem exec_answers (i : Instr) (s : State) : ∃ t r, exec i s = .next t ∧ t.response = some r := by
  rw [exec_eq]
  by_cases hw : i.wellFormed = true
  · rw [if_pos hw]
    obtain ⟨r, hr⟩ := Option.isSome_iff_exists.mp (afterChecks_answers i s _ (bodyOf_answers i s hw))
    exact ⟨_, r, rfl, hr⟩
  · rw [if_neg hw]
    obtain ⟨r, hr⟩ := Option.isSome_iff_exists.mp (illegalCommand_answers s)
    exact ⟨_, r, rfl, hr⟩

/-- Every transaction is answered, whether or not its command word is legal (R11, R225). -/
theorem serveTransaction_answers (t : Transaction) (s : State) :
    ∃ u r, serveTransaction t s = .next u ∧ u.response = some r := by
  unfold serveTransaction
  split
  · exact exec_answers _ s
  · obtain ⟨r, hr⟩ := Option.isSome_iff_exists.mp (illegalCommand_answers s)
    exact ⟨_, r, rfl, hr⟩

/-- A sequence of operations gets one response for each (R11). -/
theorem responsesOf_length (is : List Instr) (s : State) : (responsesOf is s).length = is.length := by
  induction is generalizing s with
  | nil => rfl
  | cons i rest ih =>
    obtain ⟨t, r, ht, hr⟩ := exec_answers i s
    simp [responsesOf, ht, hr, ih t]

-- ======== every step has a next state ========

/-- Serving an input has a next state: a transaction is answered, and reset is applied (R11, R250). -/
theorem serveInput_next (agent : Agent) (x : Input) (s : State) : ∃ t, serveInput agent x s = .next t := by
  cases x with
  | transaction t =>
    obtain ⟨u, -, hu, -⟩ := serveTransaction_answers t { s with issuer := some agent }
    exact ⟨u, hu⟩
  | reset => exact ⟨_, rfl⟩

/-- Every step has a next state, whatever the agents present (R238). -/
theorem step_next (s : State) : ∃ t, step s = .next t := by
  unfold step
  split
  · exact ⟨_, rfl⟩
  · exact serveInput_next _ _ _

-- ======== the carrier command of TICK ========

/-- A carrier command's code is at most 4 (R90). -/
theorem carrierCommand_code_le (c : CarrierCommand) : c.code.toNat ≤ 4 := by
  cases c <;> decide

/-- The low three bits of TICK's data word are the carrier command's code (R89). -/
theorem tickData_command (done : Bool) (c : CarrierCommand) : (tickData done c).extractLsb' 0 3 = c.code := by
  cases done <;> cases c <;> decide

/-- No check of R229 applies to TICK in a block that is not faulted. -/
theorem faultOf_tick (now : Word) (s : State) : faultOf (.tick now) s = none := rfl

/-- TICK answers a carrier command in every state: OFF with status FAULT when the block is faulted, and what its
body emits otherwise (R11, R182, R223). -/
theorem exec_tick_response (now : Word) (s t : State) (h : exec (.tick now) s = .next t) :
    ∃ st done c, t.response = some ⟨st, tickData done c⟩ := by
  obtain rfl : afterChecks (.tick now) s (tickBody now s) = t := Host.Outcome.next.inj h
  cases hf : s.faulted with
  | true =>
    rw [afterChecks_of_faulted _ _ _ hf]
    exact ⟨.fault, false, .off, rfl⟩
  | false =>
    rw [afterChecks_of_pass _ _ _ hf (faultOf_tick now s)]
    exact ⟨.ok, tickBody_response now s⟩

/-- Settles O7: each body answers, so each operation does; the rest follows along the sequence, the step and the
five carrier commands. -/
theorem everyOperationGetsExactlyOneResponse : Obligations.EveryOperationGetsExactlyOneResponse := by
  refine ⟨serveTransaction_answers, responsesOf_length, step_next, fun now s t h => ?_⟩
  obtain ⟨st, done, c, hr⟩ := exec_tick_response now s t h
  refine ⟨st, tickData done c, hr, ?_⟩
  rw [tickData_command]
  exact carrierCommand_code_le c

end Sys2Proof.Machine
end

