-- ==== Sys2Proof/Proofs/State.lean ====
section
/-! PROOFS. The statements about the registers: what QUERY, STATUS and the outputs show of them (R39 to R43), what a
step and a CFG.WRITE do to them, the invariant (R44) with its step lemma, the transmitter's states (R32), the bits of
TX_BUFFER that are never sent (R29), and RECEIVE beside the source's loop (R164). -/

namespace Sys2Proof.Machine

-- ======== reset and the driven outputs ========

/-- Settles O54: the reset state is a literal, and each register is one of its fields. -/
theorem resetValuesAreZero : Obligations.ResetValuesAreZero := by
  unfold Obligations.ResetValuesAreZero
  decide

/-- Settles O39: each output is read off its register, `rx_listen` through the comparison with RX_WAIT. -/
theorem drivenOutputsFollowTheRegisters : Obligations.DrivenOutputsFollowTheRegisters := fun _ =>
  ⟨rfl, rfl, decide_eq_true_iff, rfl⟩

-- ======== a step serves one input ========

/-- When both agents present an input, the free choice says whose is taken (R68). -/
theorem takeInput_both (s : State) (x y : Input) (hostRest tickRest : List Input)
    (hh : s.hostQueue = x :: hostRest) (ht : s.tickQueue = y :: tickRest) :
    takeInput s =
      if Config.tickServedFirst s.arbiter then
        some (.tickSource, y, { s with tickQueue := tickRest, arbiter := s.arbiter + 1 })
      else some (.host, x, { s with hostQueue := hostRest, arbiter := s.arbiter + 1 }) := by
  simp only [takeInput, hh, ht]

/-- Serving a transaction that decodes is its operation, answered to its agent (R67, R87). -/
theorem serveInput_transaction_legal (agent : Agent) (t : Transaction) (i : Instr) (s : State)
    (hd : decode t = .legal i) :
    serveInput agent (.transaction t) s = exec i { s with issuer := some agent } := by
  simp only [serveInput, serveTransaction, hd]

/-- With nothing from the tick source a step serves the host's oldest input (R69). -/
theorem step_host_only {s : State} {x : Input} {rest : List Input} (hh : s.hostQueue = x :: rest)
    (ht : s.tickQueue = []) : step s = serveInput .host x { s with hostQueue := rest } := by
  rw [step, takeInput_host s x rest hh ht]

/-- With nothing from the host a step serves the tick source's oldest input (R69). -/
theorem step_tick_only {s : State} {y : Input} {rest : List Input} (hh : s.hostQueue = [])
    (ht : s.tickQueue = y :: rest) : step s = serveInput .tickSource y { s with tickQueue := rest } := by
  rw [step, takeInput_tickSource s y rest hh ht]

/-- When both agents present an input, a step serves the one the free choice names (R68). -/
theorem step_both {s : State} {x y : Input} {hostRest tickRest : List Input}
    (hh : s.hostQueue = x :: hostRest) (ht : s.tickQueue = y :: tickRest) :
    step s =
      if Config.tickServedFirst s.arbiter then
        serveInput .tickSource y { s with tickQueue := tickRest, arbiter := s.arbiter + 1 }
      else serveInput .host x { s with hostQueue := hostRest, arbiter := s.arbiter + 1 } := by
  rw [step, takeInput_both s x y hostRest tickRest hh ht]
  by_cases hfirst : Config.tickServedFirst s.arbiter = true
  · simp only [if_pos hfirst]
  · simp only [if_neg hfirst]

/-- Settles O5: which input the step serves, and what serving a transaction that decodes is. -/
theorem stepRunsTheDecodedOperation : Obligations.StepRunsTheDecodedOperation := by
  intro s t i hd _
  refine ⟨fun rest hh ht => ?_, fun rest ht hh => ?_, fun rest x other hh ht => ?_,
    fun rest x other ht hh => ?_⟩
  · rw [step_host_only hh ht, serveInput_transaction_legal _ _ _ _ hd]
  · rw [step_tick_only hh ht, serveInput_transaction_legal _ _ _ _ hd]
  · rw [step_both hh ht, serveInput_transaction_legal _ _ _ _ hd]
  · rw [step_both hh ht, serveInput_transaction_legal _ _ _ _ hd]

-- ======== QUERY and the STATUS word ========

/-- QUERY answers what its selector reads, in a faulted block too (R211, R212). -/
theorem exec_query (a : Word) (s : State) : exec (.query a) s = .next (respond .ok (readSelector a s) s) := by
  have hc : afterChecks (.query a) s (respond .ok (readSelector a s) s) = respond .ok (readSelector a s) s := by
    cases hf : s.faulted with
    | true => exact afterChecks_of_faulted _ _ _ hf
    | false => exact afterChecks_of_pass _ _ _ hf rfl
  exact congrArg Host.Outcome.next hc

/-- The selectors that name something, each with what it reads: the table of R41. -/
def selectorMap (s : State) : List (Word × Word) :=
  [(0, statusWord s), (1, s.cfgStart), (2, s.cfgShort), (3, s.cfgLong), (4, s.cfgGap), (5, s.cfgIdle),
    (6, s.cfgTol), (7, s.cfgCtrl), (8, s.txBuffer), (9, s.txRemaining.setWidth 32), (10, s.txLastTime),
    (11, s.rxPacket), (12, s.rxBits.setWidth 32), (13, s.rxStartTime), (14, s.rxTimeout),
    (15, s.rxLastAccept), (16, s.faultCode.setWidth 32)]

/-- A selector of the table reads its entry (R41). -/
theorem readSelector_of_mem_selectorMap (s : State) : ∀ p ∈ selectorMap s, readSelector p.1 s = p.2 := by
  simp [selectorMap, readSelector, zext32]

/-- Every selector from 17 up reads 0 (R41). -/
theorem readSelector_of_unmapped (a : Word) (s : State) (ha : 17 ≤ a.toNat) : readSelector a s = 0 := by
  obtain ⟨k, hk⟩ := Nat.exists_eq_add_of_le' ha
  simp only [readSelector, hk]

/-- Settles O9: QUERY answers what its selector reads, and the table says what that is. -/
theorem queryReadsTheSelectorMap : Obligations.QueryReadsTheSelectorMap := by
  intro s
  refine ⟨fun a v hmap => ?_, fun a ha => ?_⟩
  · rw [exec_query, show readSelector a s = v from readSelector_of_mem_selectorMap s (a, v) hmap]
    rfl
  · rw [exec_query, readSelector_of_unmapped a s ha]
    rfl

/-- The fields of the STATUS word below bit 27, each taken out as a bit vector (R39). -/
theorem statusWord_fields (s : State) :
    (statusWord s).extractLsb' 0 1 = BitVec.ofBool s.txArmed ∧
    (statusWord s).extractLsb' 1 1 = BitVec.ofBool s.txInGap ∧
    (statusWord s).extractLsb' 2 1 = BitVec.ofBool s.configValid ∧
    (statusWord s).extractLsb' 3 2 = s.rxState.code ∧
    (statusWord s).extractLsb' 5 1 = BitVec.ofBool s.faulted ∧
    (statusWord s).extractLsb' 6 1 = BitVec.ofBool s.carrierEn ∧
    (statusWord s).extractLsb' 7 1 = BitVec.ofBool false ∧
    (statusWord s).extractLsb' 8 6 = s.txRemaining ∧
    (statusWord s).extractLsb' 14 2 = 0 ∧
    (statusWord s).extractLsb' 16 6 = s.rxBits ∧
    (statusWord s).extractLsb' 22 2 = 0 ∧
    (statusWord s).extractLsb' 24 3 = s.faultCode := by
  unfold statusWord zext32
  simp (disch := omega) only [BitVec.extractLsb'_setWidth_of_le, BitVec.extractLsb'_append_eq_of_le,
    BitVec.extractLsb'_append_eq_of_add_le]
  simp

/-- Bits [31:27] of the STATUS word are 0 (R39). -/
theorem statusWord_top (s : State) : (statusWord s).extractLsb' 27 5 = 0 := by
  ext i hi
  rw [BitVec.getElem_extractLsb', statusWord, zext32, BitVec.getLsbD_setWidth, BitVec.getLsbD_of_ge _ _ (by omega)]
  simp

/-- A bit is the field of width 1 at its place. -/
theorem getLsbD_of_extractLsb'_one {w k : Nat} {x : BitVec w} {b : Bool} (h : x.extractLsb' k 1 = BitVec.ofBool b) :
    x.getLsbD k = b := by
  simpa using congrArg (fun v : BitVec 1 => v.getLsbD 0) h

/-- Settles O10: the fields of the word, those of width 1 read as bits. -/
theorem statusWordLaysOutTheRegisters : Obligations.StatusWordLaysOutTheRegisters := by
  intro s
  obtain ⟨armed, inGap, valid, rx, faulted, carrier, bit7, remaining, zero14, bits, zero22, code⟩ :=
    statusWord_fields s
  exact ⟨exec_query 0 s, getLsbD_of_extractLsb'_one armed, getLsbD_of_extractLsb'_one inGap,
    getLsbD_of_extractLsb'_one valid, rx, getLsbD_of_extractLsb'_one faulted,
    getLsbD_of_extractLsb'_one carrier, getLsbD_of_extractLsb'_one bit7, remaining, zero14, bits, zero22, code,
    statusWord_top s⟩

/-- The 2-bit value tells the places of the receive loop apart (R33). -/
theorem rxState_code_injective {x y : RxState} (h : x.code = y.code) : x = y := by
  revert h
  cases x <;> cases y <;> decide

/-- Zero-extension loses nothing (R9). -/
theorem zext32_injective {w : Nat} (hw : w ≤ 32) {x y : BitVec w} (h : zext32 x = zext32 y) : x = y := by
  simpa [zext32, hw] using congrArg (BitVec.setWidth w) h

/-- Settles O11: the words at selectors 1 to 16 are registers, and the seven others are fields of STATUS. -/
theorem queryReadsEveryRegister : Obligations.QueryReadsEveryRegister := by
  intro s t h
  have hstatus : statusWord s = statusWord t := h 0
  have hbit {k : Nat} {b c : Bool} (hs : (statusWord s).extractLsb' k 1 = BitVec.ofBool b)
      (ht : (statusWord t).extractLsb' k 1 = BitVec.ofBool c) : b = c := by
    rw [← getLsbD_of_extractLsb'_one hs, ← getLsbD_of_extractLsb'_one ht, hstatus]
  obtain ⟨sArmed, sGap, sValid, sRx, sFaulted, sCarrier, -⟩ := statusWord_fields s
  obtain ⟨tArmed, tGap, tValid, tRx, tFaulted, tCarrier, -⟩ := statusWord_fields t
  have hregs : s.cfgStart = t.cfgStart ∧ s.cfgShort = t.cfgShort ∧ s.cfgLong = t.cfgLong ∧ s.cfgGap = t.cfgGap ∧
      s.cfgIdle = t.cfgIdle ∧ s.cfgTol = t.cfgTol ∧ s.cfgCtrl = t.cfgCtrl ∧ s.txBuffer = t.txBuffer ∧
      s.txLastTime = t.txLastTime ∧ s.rxPacket = t.rxPacket ∧ s.rxStartTime = t.rxStartTime ∧
      s.rxTimeout = t.rxTimeout ∧ s.rxLastAccept = t.rxLastAccept :=
    ⟨h 1, h 2, h 3, h 4, h 5, h 6, h 7, h 8, h 10, h 11, h 13, h 14, h 15⟩
  have hremaining : s.txRemaining = t.txRemaining := zext32_injective (by decide) (h 9)
  have hbits : s.rxBits = t.rxBits := zext32_injective (by decide) (h 12)
  have hcode : s.faultCode = t.faultCode := zext32_injective (by decide) (h 16)
  have hplace : s.rxState = t.rxState := rxState_code_injective (by rw [← sRx, ← tRx, hstatus])
  have harmed := hbit sArmed tArmed
  have hgap := hbit sGap tGap
  have hvalid := hbit sValid tValid
  have hfaulted := hbit sFaulted tFaulted
  have hcarrier := hbit sCarrier tCarrier
  cases s
  cases t
  simp_all

-- ======== operations depend on the registers alone ========

/-- The state with other queues, another arbitration count and another agent to answer (log entries 1, 2, 4). -/
def State.withAgents (s : State) (host tick : List Input) (n : Nat) (g : Option Agent) : State :=
  { s with hostQueue := host, tickQueue := tick, arbiter := n, issuer := g }

section
variable (s : State) (host tick : List Input) (n : Nat) (r : Option Response) (g : Option Agent)

/-- The same registers beside other values of all five fields that are the model's own. -/
abbrev State.elsewhere : State := { s with response := r }.withAgents host tick n g

/-- CFG.WRITE's body passes the model's own fields through (R43). -/
theorem cfgWriteBody_elsewhere (c : CfgReg) (v : Word) :
    cfgWriteBody c v (s.elsewhere host tick n r g) = (cfgWriteBody c v s).withAgents host tick n g := by
  simp only [cfgWriteBody, apply_ite (State.withAgents · host tick n g)]
  cases c <;> rfl

/-- CFG.COMMIT's body passes the model's own fields through (R43). -/
theorem cfgCommitBody_elsewhere :
    cfgCommitBody (s.elsewhere host tick n r g) = (cfgCommitBody s).withAgents host tick n g := by
  simp only [cfgCommitBody, apply_ite (State.withAgents · host tick n g)]
  rfl

/-- ARM's body passes the model's own fields through (R43). -/
theorem armBody_elsewhere (packet : Word) :
    armBody packet (s.elsewhere host tick n r g) = (armBody packet s).withAgents host tick n g := by
  simp only [armBody, apply_ite (State.withAgents · host tick n g)]
  rfl

/-- TICK's body passes the model's own fields through (R43). -/
theorem tickBody_elsewhere (now : Word) :
    tickBody now (s.elsewhere host tick n r g) = (tickBody now s).withAgents host tick n g := by
  simp only [tickBody, apply_ite (State.withAgents · host tick n g)]
  rfl

/-- RX.CHECK's body passes the model's own fields through (R43). -/
theorem rxCheckBody_elsewhere (now : Word) :
    rxCheckBody now (s.elsewhere host tick n r g) = (rxCheckBody now s).withAgents host tick n g := by
  simp only [rxCheckBody, apply_ite (State.withAgents · host tick n g)]
  rfl

/-- RX.PULSE's body passes the model's own fields through (R43). -/
theorem rxPulseBody_elsewhere (d now : Word) :
    rxPulseBody d now (s.elsewhere host tick n r g) = (rxPulseBody d now s).withAgents host tick n g := by
  have hsame : classify d (s.elsewhere host tick n r g) = classify d s := rfl
  rw [rxPulseBody, rxPulseBody, hsame]
  cases classify d s with
  | unrecognized =>
    simp only [apply_ite (State.withAgents · host tick n g)]
    rfl
  | _ => rfl

/-- The body of a well-formed operation passes the model's own fields through (R43). -/
theorem bodyOf_elsewhere (i : Instr) (hw : i.wellFormed = true) :
    bodyOf i (s.elsewhere host tick n r g) = (bodyOf i s).withAgents host tick n g := by
  cases i with
  | cfgWrite idx value =>
    obtain ⟨c, hc⟩ := Option.isSome_iff_exists.mp ((cfgRegOfIndex_isSome idx).trans hw)
    simpa [bodyOf, hc] using cfgWriteBody_elsewhere s host tick n r g c value
  | cfgCommit => exact cfgCommitBody_elsewhere s host tick n r g
  | arm packet => exact armBody_elsewhere s host tick n r g packet
  | tick now => exact tickBody_elsewhere s host tick n r g now
  | rxCheck now => exact rxCheckBody_elsewhere s host tick n r g now
  | rxPulse d now => exact rxPulseBody_elsewhere s host tick n r g d now
  | nop | query | classify | rxStart => rfl

/-- The checks of R229 read registers only. -/
theorem faultOf_elsewhere (i : Instr) : faultOf i (s.elsewhere host tick n r g) = faultOf i s := by
  cases i <;> rfl

/-- The answers of a faulted block pass the model's own fields through (R223). -/
theorem faultedAnswer_elsewhere (i : Instr) :
    faultedAnswer i (s.elsewhere host tick n r g) =
      (faultedAnswer i s).map (State.withAgents · host tick n g) := by
  cases i <;> rfl

/-- An illegal command word passes the model's own fields through (R43). -/
theorem illegalCommand_elsewhere :
    illegalCommand (s.elsewhere host tick n r g) = (illegalCommand s).withAgents host tick n g := by
  simp only [illegalCommand, apply_ite (State.withAgents · host tick n g)]
  rfl

/-- What the checks decide passes the model's own fields through (R229). -/
theorem precheck_elsewhere (i : Instr) :
    precheck i (s.elsewhere host tick n r g) = (precheck i s).map (State.withAgents · host tick n g) := by
  unfold precheck
  rw [faultOf_elsewhere, faultedAnswer_elsewhere, apply_ite (Option.map _), Option.map_map]
  rfl

/-- The checks and a body after them pass the model's own fields through (R229). -/
theorem afterChecks_elsewhere (i : Instr) (body : State) :
    afterChecks i (s.elsewhere host tick n r g) (body.withAgents host tick n g) =
      (afterChecks i s body).withAgents host tick n g := by
  unfold afterChecks
  rw [precheck_elsewhere, Option.getD_map]

end

/-- Settles O12: the checks, the bodies and the illegal word each pass the model's own fields through. -/
theorem operationsDependOnTheRegistersAlone : Obligations.OperationsDependOnTheRegistersAlone := by
  intro i s t host tick n r g hs
  rw [exec_eq] at hs
  obtain rfl := Host.Outcome.next.inj hs
  change exec i (s.elsewhere host tick n r g) = .next (State.withAgents _ host tick n g)
  rw [exec_eq]
  by_cases hw : i.wellFormed = true
  · rw [if_pos hw, if_pos hw, bodyOf_elsewhere _ _ _ _ _ _ _ hw, afterChecks_elsewhere]
  · rw [if_neg hw, if_neg hw, illegalCommand_elsewhere]

-- ======== CFG.WRITE ========

/-- In a block that is neither faulted nor configured CFG.WRITE writes the register its index names (R85, R111). -/
theorem exec_cfgWrite_mapped {idx : BitVec 4} {r : CfgReg} (v : Word) {s : State}
    (hr : cfgRegOfIndex idx = some r) (hf : s.faulted = false) (hv : s.configValid = false) :
    exec (.cfgWrite idx v) s = .next (respond .ok 0 (writeCfg r v s)) := by
  have hw : (Instr.cfgWrite idx v).wellFormed = true := by
    rw [Instr.wellFormed, ← cfgRegOfIndex_isSome, hr, Option.isSome_some]
  rw [exec_eq, if_pos hw, afterChecks_of_pass _ _ _ hf rfl]
  simp [bodyOf, hr, cfgWriteBody, hv]

/-- In a block that is not faulted CFG.WRITE of an index from 7 up raises ILLEGAL_COMMAND (R111; log entry 11). -/
theorem exec_cfgWrite_unmapped {idx : BitVec 4} (v : Word) {s : State} (hi : 7 ≤ idx.toNat)
    (hf : s.faulted = false) : exec (.cfgWrite idx v) s = .next (raiseFault .illegalCommand s) := by
  have hw : ¬ (Instr.cfgWrite idx v).wellFormed = true := by
    simp only [Instr.wellFormed, mappedIndex, decide_eq_true_eq]
    omega
  rw [exec_eq, if_neg hw]
  simp [illegalCommand, hf]

/-- Settles O13: each index names its register (R85), and the write of that register is its case of writeCfg. -/
theorem cfgWriteSetsOneRegister : Obligations.CfgWriteSetsOneRegister := by
  intro v s hf
  refine ⟨fun hv => ?_, fun idx hi => exec_cfgWrite_unmapped v hi hf⟩
  have hwrite (idx : BitVec 4) (r : CfgReg) (hr : cfgRegOfIndex idx = some r) :=
    exec_cfgWrite_mapped v hr hf hv
  exact ⟨hwrite 0 .start rfl, hwrite 1 .short rfl, hwrite 2 .long rfl, hwrite 3 .gap rfl, hwrite 4 .idle rfl,
    hwrite 5 .tol rfl, hwrite 6 .ctrl rfl⟩

-- ======== the invariant at reset, and under what is not the block's ========

/-- Settles O58: every register the invariant reads is 0 at reset. -/
theorem resetMeetsTheInvariant : Obligations.ResetMeetsTheInvariant := by
  unfold Obligations.ResetMeetsTheInvariant
  constructor <;> decide

/-- The code of a cause is one of 1 to 4 (R221). -/
theorem faultCause_code_range (c : FaultCause) : 1 ≤ c.code.toNat ∧ c.code.toNat ≤ 4 := by
  cases c <;> decide

/-- The validation does not read CONFIG_VALID: a commit leaves it as it was (R112, R113). -/
theorem configOk_commit (s : State) : configOk { s with configValid := true } = configOk s := rfl

/-- What checks 3 to 5 of R229 have ruled out where a body runs. -/
theorem faultOf_eq_none_iff (i : Instr) (s : State) :
    faultOf i s = none ↔
      (needsConfig i = true → s.configValid = true) ∧ breaksHalfDuplex i s = false ∧
        breaksRxSequence i s = false := by
  unfold faultOf
  cases needsConfig i <;> cases s.configValid <;> cases breaksHalfDuplex i s <;> simp

namespace State.Inv

variable {s : State}

/-- The invariant reads registers only: what the agents present and the port hold plays no part (R43). -/
theorem withPorts (h : s.Inv) (host tick : List Input) (n : Nat) (r : Option Response) (g : Option Agent) :
    { s with hostQueue := host, tickQueue := tick, arbiter := n, response := r, issuer := g }.Inv :=
  { h with }

/-- Responding keeps the invariant (R10). -/
theorem afterRespond (h : s.Inv) (st : Status) (data : Word) : (respond st data s).Inv := { h with }

/-- Reset establishes the invariant, whatever the state before (R250). -/
theorem of_applyReset (s : State) : (applyReset s).Inv := withPorts resetMeetsTheInvariant _ _ _ _ _

-- ======== faults ========

/-- Turning the carrier off keeps the invariant. -/
theorem carrierOff (h : s.Inv) : { s with carrierEn := false }.Inv := { h with carrierOnlyInMark := nofun }

/-- Fault entry keeps the invariant (R222). -/
theorem afterRaiseFault (h : s.Inv) (c : FaultCause) : (raiseFault c s).Inv :=
  { h with
    carrierOnlyInMark := nofun
    noFaultNoCode := nofun
    faultHasCode := fun _ => faultCause_code_range c }

/-- An illegal command word keeps the invariant (R225). -/
theorem afterIllegalCommand (h : s.Inv) : (illegalCommand s).Inv := by
  obtain ⟨-, hs⟩ | ⟨-, hs⟩ := illegalCommand_cases s <;> rw [hs]
  · exact h.afterRaiseFault _
  · exact h.afterRespond _ _

/-- A faulted block's answers keep the invariant, and so does the body of QUERY, the one it still runs (R212,
R223). -/
theorem afterFaultedAnswer (h : s.Inv) (i : Instr) : ((faultedAnswer i s).getD (bodyOf i s)).Inv := by
  cases i with
  | tick now => exact h.carrierOff.afterRespond _ _
  | _ => exact h.afterRespond _ _

-- ======== the configuration ========

/-- Before a commit any write of a configuration register keeps the invariant: nothing is armed, and RX_PACKET
is 0, whatever the new packet width (R111). -/
theorem afterWriteCfg (h : s.Inv) (hv : s.configValid = false) (r : CfgReg) (value : Word) :
    (writeCfg r value s).Inv := by
  have hunchecked {P : Prop} : s.configValid = true → P := by simp [hv]
  cases r with
  | ctrl =>
    exact
      { h with
        remainingInPacket := fun ha => hunchecked (h.armedIsConfigured ha)
        committedIsValid := hunchecked
        ctrlReservedZero := by
          change value &&& ctrlWriteMask &&& ~~~ctrlWriteMask = 0
          simp [BitVec.and_assoc]
        packetInMask := by
          change s.rxPacket.toNat < _
          simp [h.packetNeedsConfig hv] }
  | _ => exact { h with committedIsValid := hunchecked }

/-- CFG.WRITE's body keeps the invariant (R111). -/
theorem afterCfgWriteBody (h : s.Inv) (r : CfgReg) (value : Word) : (cfgWriteBody r value s).Inv := by
  unfold cfgWriteBody
  split
  · exact h.afterRespond _ _
  case isFalse hv => exact (h.afterWriteCfg (by simpa using hv) r value).afterRespond _ _

/-- Committing a valid configuration keeps the invariant (R112). -/
theorem afterCommit (h : s.Inv) (hok : configOk s = true) : { s with configValid := true }.Inv :=
  { h with
    armedIsConfigured := fun _ => rfl
    receivingIsConfigured := fun _ => rfl
    committedIsValid := fun _ => (configOk_commit s).trans hok
    packetNeedsConfig := nofun }

/-- CFG.COMMIT's body keeps the invariant (R112). -/
theorem afterCfgCommitBody (h : s.Inv) : (cfgCommitBody s).Inv := by
  unfold cfgCommitBody
  split
  · exact h.afterRespond _ _
  · split
    case isTrue hok => exact (h.afterCommit hok).afterRespond _ _
    · exact h.afterRespond _ _

/-- A configured block has a packet width of 1 to 32 (R114). -/
theorem packetBits_range (h : s.Inv) (hv : s.configValid = true) :
    1 ≤ s.packetBits.toNat ∧ s.packetBits.toNat ≤ 32 :=
  (configOk_cases s (h.committedIsValid hv)).1

-- ======== the transmitter ========

/-- Arming a configured block that is not receiving keeps the invariant: every bit of the packet is left to send
(R181). -/
theorem afterArming (h : s.Inv) (hv : s.configValid = true) (ha : s.txArmed = false) (hr : s.rxState = .idle)
    (packet : Word) :
    { s with txBuffer := packet, txRemaining := s.packetBits, txInGap := false, txArmed := true }.Inv :=
  { h with
    armedIsConfigured := fun _ => hv
    remainingInPacket := fun _ => le_rfl
    halfDuplex := fun _ => hr
    carrierOnlyInMark := fun hc => absurd (h.carrierOnlyInMark hc).1 (by simp [ha])
    remainingAtMost32 := (h.packetBits_range hv).2
    gapHasBitLeft := nofun }

/-- ARM's body keeps the invariant in a configured block that is not receiving (R181). -/
theorem afterArmBody (h : s.Inv) (hv : s.configValid = true) (hr : s.rxState = .idle) (packet : Word) :
    (armBody packet s).Inv := by
  unfold armBody
  split
  · exact h.afterRespond _ _
  case isFalse ha => exact (h.afterArming hv (by simpa using ha) hr packet).afterRespond _ _

/-- The completing TICK keeps the invariant (R187). -/
theorem afterTickComplete (h : s.Inv) : (tickComplete s).Inv :=
  { h with
    armedIsConfigured := nofun
    remainingInPacket := nofun
    halfDuplex := nofun
    carrierOnlyInMark := nofun
    gapHasBitLeft := nofun }

/-- Gap entry with a bit left keeps the invariant (R185). -/
theorem afterEnterGap (h : s.Inv) (hn : s.txRemaining ≠ 0) (now : Word) : (enterGap now s).Inv :=
  { h with
    carrierOnlyInMark := nofun
    gapHasBitLeft := fun _ _ => hn }

/-- Mark entry counts a bit that is left down by one (R186). -/
theorem enterMark_txRemaining_toNat (hn : s.txRemaining ≠ 0) (now : Word) :
    (enterMark now s).txRemaining.toNat = s.txRemaining.toNat - 1 := by
  rw [enterMark_txRemaining]
  bv_omega

/-- Mark entry keeps the invariant in an armed block that is not faulted (R186). -/
theorem afterEnterMark (h : s.Inv) (ha : s.txArmed = true) (hf : s.faulted = false) (hn : s.txRemaining ≠ 0)
    (now : Word) : (enterMark now s).Inv :=
  { h with
    remainingInPacket := fun _ => by
      rw [enterMark_txRemaining_toNat hn]
      exact (Nat.sub_le _ _).trans (h.remainingInPacket ha)
    carrierOnlyInMark := fun _ => ⟨ha, rfl, hf⟩
    remainingAtMost32 := by
      rw [enterMark_txRemaining_toNat hn]
      exact (Nat.sub_le _ _).trans h.remainingAtMost32
    gapHasBitLeft := nofun }

/-- TICK's body keeps the invariant in a block that is not faulted (R182). -/
theorem afterTickBody (h : s.Inv) (hf : s.faulted = false) (now : Word) : (tickBody now s).Inv := by
  obtain ⟨-, hs⟩ | ⟨-, -, hs⟩ | ⟨-, -, -, hs⟩ | ⟨-, hn, -, -, hs⟩ | ⟨ha, hn, -, -, hs⟩ := tickBody_cases now s <;>
    rw [hs]
  · exact h.carrierOff.afterRespond _ _
  · exact h.afterTickComplete
  · exact h.afterRespond _ _
  · exact h.afterEnterGap hn now
  · exact h.afterEnterMark ha hf hn now

-- ======== the receiver ========

/-- In a configured block that is not armed RX_STATE may move to any place of the loop (R44 (c), (d), (f)). -/
theorem receiveAt (h : s.Inv) (hv : s.configValid = true) (ha : s.txArmed = false) (place : RxState)
    (hu : place ≠ .unused) : { s with rxState := place }.Inv :=
  { h with
    halfDuplex := by simp [ha]
    receivingIsConfigured := fun _ => hv
    rxStateUsed := hu }

/-- In a configured block RX_PACKET may take any value below 2^packet_bits, and the other receive registers any
value at all (R34). -/
theorem setAccumulator (h : s.Inv) (hv : s.configValid = true) {packet : Word}
    (hp : packet.toNat < 2 ^ s.packetBits.toNat) (bits : BitVec 6) (start timeout last : Word) :
    { s with
      rxPacket := packet, rxBits := bits, rxStartTime := start, rxTimeout := timeout,
      rxLastAccept := last }.Inv :=
  { h with
    packetInMask := hp
    packetNeedsConfig := by simp [hv] }

/-- A block that is receiving is not armed (R44 (c)). -/
theorem not_armed_of_receiving (h : s.Inv) (hr : s.rxState ≠ .idle) : s.txArmed = false := by
  simpa using mt h.halfDuplex hr

/-- The empty packet is below 2^packet_bits. -/
theorem zero_packet_lt (s : State) : (0 : Word).toNat < 2 ^ s.packetBits.toNat := by simp

/-- RX.START's body keeps the invariant in a configured block that is not armed (R152). -/
theorem afterRxStartBody (h : s.Inv) (hv : s.configValid = true) (ha : s.txArmed = false) (timeout now : Word) :
    (rxStartBody timeout now s).Inv :=
  ((h.setAccumulator hv (zero_packet_lt s) 0 now timeout now).receiveAt hv ha .head nofun).afterRespond _ _

/-- RX.CHECK's body keeps the invariant in a block that is receiving (R153). -/
theorem afterRxCheckBody (h : s.Inv) (hr : s.rxState ≠ .idle) (now : Word) : (rxCheckBody now s).Inv := by
  have hmove := h.receiveAt (h.receivingIsConfigured hr) (h.not_armed_of_receiving hr)
  obtain ⟨-, hs⟩ | ⟨-, -, hs⟩ | ⟨-, -, hs⟩ := rxCheckBody_cases now s <;> rw [hs]
  · exact (hmove .idle nofun).afterRespond _ _
  · exact (hmove .idle nofun).afterRespond _ _
  · exact (hmove .wait nofun).afterRespond _ _

/-- Reporting a pulse moves a configured block that is not armed to the loop's head (R156). -/
theorem afterReportPulse (h : s.Inv) (hv : s.configValid = true) (ha : s.txArmed = false) (idleReset : Bool)
    (sym : Symbol) : (reportPulse idleReset sym s).Inv :=
  (h.receiveAt hv ha .head nofun).afterRespond _ _

/-- RX.PULSE's body keeps the invariant in a block that is receiving (R156). -/
theorem afterRxPulseBody (h : s.Inv) (hr : s.rxState ≠ .idle) (d now : Word) : (rxPulseBody d now s).Inv := by
  have hv := h.receivingIsConfigured hr
  have ha := h.not_armed_of_receiving hr
  have hclear (last : Word) := h.setAccumulator hv (zero_packet_lt s) 0 s.rxStartTime s.rxTimeout last
  have hbit (b : Bool) :=
    h.setAccumulator hv (shiftedPacket_lt b s) (sat63 (s.rxBits.toNat + 1)) s.rxStartTime s.rxTimeout now
  obtain ⟨-, hs⟩ | ⟨-, hs⟩ | ⟨-, hs⟩ | ⟨-, -, hs⟩ | ⟨-, -, hs⟩ := rxPulseBody_cases d now s <;> rw [hs]
  · exact (hclear now).afterReportPulse hv ha _ _
  · exact (hbit false).afterReportPulse hv ha _ _
  · exact (hbit true).afterReportPulse hv ha _ _
  · exact (hclear s.rxLastAccept).afterReportPulse hv ha _ _
  · exact h.afterReportPulse hv ha _ _

-- ======== operations and steps ========

/-- The body of every operation keeps the invariant where the checks of R229 let it run. -/
theorem afterBodyOf (h : s.Inv) (hf : s.faulted = false) (i : Instr) (hc : faultOf i s = none) :
    (bodyOf i s).Inv := by
  obtain ⟨hconf, hduplex, hseq⟩ := (faultOf_eq_none_iff i s).mp hc
  cases i with
  | nop | query | classify => exact h.afterRespond _ _
  | cfgWrite idx value =>
    change ((cfgRegOfIndex idx).elim s _).Inv
    cases cfgRegOfIndex idx with
    | none => exact h
    | some r => exact h.afterCfgWriteBody r value
  | cfgCommit => exact h.afterCfgCommitBody
  | arm packet => exact h.afterArmBody (hconf rfl) (by simpa [breaksHalfDuplex] using hduplex) packet
  | tick now => exact h.afterTickBody hf now
  | rxStart timeout now => exact h.afterRxStartBody (hconf rfl) hduplex timeout now
  | rxCheck now =>
    have hr : s.rxState = .head := by simpa [breaksRxSequence] using hseq
    exact h.afterRxCheckBody (by simp [hr]) now
  | rxPulse d now =>
    have hr : s.rxState = .wait := by simpa [breaksRxSequence] using hseq
    exact h.afterRxPulseBody (by simp [hr]) d now

/-- Every operation keeps the invariant. -/
theorem afterExec (h : s.Inv) {i : Instr} {t : State} (hs : exec i s = .next t) : t.Inv := by
  rw [exec_eq] at hs
  obtain rfl := Host.Outcome.next.inj hs
  split
  · obtain ⟨hf, hc, hs⟩ | ⟨-, c, -, hs⟩ | ⟨-, hs⟩ := afterChecks_cases i s (bodyOf i s) <;> rw [hs]
    · exact h.afterBodyOf hf i hc
    · exact h.afterRaiseFault c
    · exact h.afterFaultedAnswer i
  · exact h.afterIllegalCommand

/-- Serving any input keeps the invariant: an operation, an illegal word, or reset (R225, R250). -/
theorem afterServeInput (h : s.Inv) {agent : Agent} {x : Input} {t : State}
    (hs : serveInput agent x s = .next t) : t.Inv := by
  have hport : { s with issuer := some agent }.Inv := h.withPorts _ _ _ _ _
  cases x with
  | reset =>
    obtain rfl := Host.Outcome.next.inj hs
    exact of_applyReset s
  | transaction tr =>
    change serveTransaction tr _ = _ at hs
    unfold serveTransaction at hs
    split at hs
    · exact hport.afterExec hs
    · obtain rfl := Host.Outcome.next.inj hs
      exact hport.afterIllegalCommand

end State.Inv

/-- Settles O59: taking an input off its queue changes no register, and serving it keeps the invariant. -/
theorem everyStepKeepsTheInvariant : Obligations.EveryStepKeepsTheInvariant := by
  intro s t h hs
  unfold step at hs
  obtain ⟨-, -, ht⟩ | ⟨x, rest, n, -, ht⟩ | ⟨y, rest, n, -, ht⟩ := takeInput_cases s <;> rw [ht] at hs
  · obtain rfl := Host.Outcome.next.inj hs
    exact h.withPorts _ _ _ _ _
  · exact State.Inv.afterServeInput (h.withPorts _ _ _ _ _) hs
  · exact State.Inv.afterServeInput (h.withPorts _ _ _ _ _) hs

-- ======== the transmitter's states ========

/-- Settles O47: TX_ARMED and TX_IN_GAP leave the mark phase and the pre-phase, which TX_REMAINING tells apart; a
configured packet has a bit, so no pre-phase is Done. -/
theorem transmitterIsInOneSourceState : Obligations.TransmitterIsInOneSourceState := by
  intro s h
  simp only [txIdle, txPrePhase, txArmedGap, txArmedSymbol, txDone]
  cases ha : s.txArmed with
  | false => simp
  | true =>
    have hle := h.remainingInPacket ha
    have hwidth : 1 ≤ s.packetBits.toNat := (h.packetBits_range (h.armedIsConfigured ha)).1
    cases hg : s.txInGap with
    | true =>
      have hzero : s.txRemaining.toNat ≠ 0 := fun h0 => h.gapHasBitLeft ha hg (BitVec.eq_of_toNat_eq h0)
      simp [hle, Nat.one_le_iff_ne_zero.mpr hzero]
    | false =>
      by_cases hpre : s.txRemaining = s.packetBits
      · have hne : s.packetBits ≠ 0#6 := fun h0 => by simp [h0] at hwidth
        simp [hpre, hne]
      · have hlt : s.txRemaining.toNat < s.packetBits.toNat :=
          lt_of_le_of_ne hle fun he => hpre (BitVec.eq_of_toNat_eq he)
        simp [hpre, hlt]

-- ======== the bits of TX_BUFFER that are sent ========

/-- TICK when not armed (R188). -/
theorem tickBody_of_idle (now : Word) {s : State} (ha : s.txArmed = false) : tickBody now s = tickIdle s := by
  simp [tickBody, ha]

/-- TICK with no bit left (R187). -/
theorem tickBody_of_done (now : Word) {s : State} (ha : s.txArmed = true) (hn : s.txRemaining = 0) :
    tickBody now s = tickComplete s := by
  simp [tickBody, ha, hn]

/-- TICK within a phase (R182). -/
theorem tickBody_of_midPhase {now : Word} {s : State} (ha : s.txArmed = true) (hn : s.txRemaining ≠ 0)
    (hm : midPhase now s = true) : tickBody now s = answerTick false .hold s := by
  simp_all [tickBody]

/-- TICK past a mark or in the pre-phase (R185). -/
theorem tickBody_of_mark_past {now : Word} {s : State} (ha : s.txArmed = true) (hn : s.txRemaining ≠ 0)
    (hm : midPhase now s = false) (hg : s.txInGap = false) : tickBody now s = enterGap now s := by
  simp_all [tickBody]

/-- TICK past a gap (R186). -/
theorem tickBody_of_gap_past {now : Word} {s : State} (ha : s.txArmed = true) (hn : s.txRemaining ≠ 0)
    (hm : midPhase now s = false) (hg : s.txInGap = true) : tickBody now s = enterMark now s := by
  simp_all [tickBody]

/-- The state with another TX_BUFFER. -/
def State.withBuffer (s : State) (other : Word) : State := { s with txBuffer := other }

section
variable {s : State} {other : Word}

/-- The bit being marked is below `packet_bits`, so the phase lasts as long (R183). -/
theorem phaseDuration_withBuffer (hle : s.txRemaining.toNat ≤ s.packetBits.toNat)
    (ho : ∀ k, k < s.packetBits.toNat → other.getLsbD k = s.txBuffer.getLsbD k) :
    phaseDuration (s.withBuffer other) = phaseDuration s := by
  change (if s.txInGap then s.cfgGap else if s.txRemaining = s.packetBits then 0
    else if other.getLsbD s.txRemaining.toNat then s.cfgLong else s.cfgShort) = _
  by_cases hpre : s.txRemaining = s.packetBits
  · simp [phaseDuration, hpre]
  · rw [ho _ (lt_of_le_of_ne hle fun he => hpre (BitVec.eq_of_toNat_eq he)), phaseDuration]

/-- The next bit to mark is below `packet_bits`, so mark entry sends the same (R186). -/
theorem enterMark_withBuffer (hle : s.txRemaining.toNat ≤ s.packetBits.toNat) (hn : s.txRemaining ≠ 0)
    (ho : ∀ k, k < s.packetBits.toNat → other.getLsbD k = s.txBuffer.getLsbD k) (now : Word) :
    enterMark now (s.withBuffer other) = (enterMark now s).withBuffer other := by
  have hpos : s.txRemaining.toNat ≠ 0 := fun h0 => hn (BitVec.eq_of_toNat_eq h0)
  have hbit : nextBit (s.withBuffer other) = nextBit s := ho (s.txRemaining.toNat - 1) (by omega)
  rw [enterMark, hbit]
  rfl

/-- TICK's body does the same for the other TX_BUFFER (R29). -/
theorem tickBody_withBuffer (hle : s.txRemaining.toNat ≤ s.packetBits.toNat)
    (ho : ∀ k, k < s.packetBits.toNat → other.getLsbD k = s.txBuffer.getLsbD k) (now : Word) :
    tickBody now (s.withBuffer other) = (tickBody now s).withBuffer other := by
  have hmid : midPhase now (s.withBuffer other) = midPhase now s := by
    rw [midPhase, phaseDuration_withBuffer hle ho]
    rfl
  obtain ⟨ha, hs⟩ | ⟨ha, hn, hs⟩ | ⟨ha, hn, hm, hs⟩ | ⟨ha, hn, hm, hg, hs⟩ | ⟨ha, hn, hm, hg, hs⟩ :=
    tickBody_cases now s <;> rw [hs]
  · exact tickBody_of_idle now ha
  · exact tickBody_of_done now ha hn
  · exact tickBody_of_midPhase ha hn (hmid.trans hm)
  · exact tickBody_of_mark_past ha hn (hmid.trans hm) hg
  · rw [← enterMark_withBuffer hle hn ho]
    exact tickBody_of_gap_past ha hn (hmid.trans hm) hg

end

/-- Settles O45: TICK's body does the same for the other TX_BUFFER, and the checks before it do not read one. -/
theorem highPacketBitsAreNeverSent : Obligations.HighPacketBitsAreNeverSent := by
  intro now other s t hle ho hs
  obtain rfl : afterChecks (.tick now) s (tickBody now s) = t := Host.Outcome.next.inj hs
  change Host.Outcome.next (afterChecks (.tick now) (s.withBuffer other) (tickBody now (s.withBuffer other))) =
    .next (State.withBuffer _ other)
  rw [tickBody_withBuffer hle ho]
  cases hf : s.faulted with
  | true =>
    rw [afterChecks_of_faulted _ s _ hf, afterChecks_of_faulted _ (s.withBuffer other) _ hf]
    rfl
  | false =>
    rw [afterChecks_of_pass _ s _ hf (faultOf_tick now s),
      afterChecks_of_pass _ (s.withBuffer other) _ hf (faultOf_tick now _)]

-- ======== RECEIVE and the source's loop ========

/-- The block in the receive loop with the source's variables `v` in its registers: the packet kept to 32 bits, and
the count of bits saturating at 63 (R34, R35). -/
def loopState (cfg : State) (place : RxState) (timeout start : Word) (r : Option Response) (v : LoopVars) : State :=
  { cfg with
    rxState := place
    rxPacket := BitVec.ofNat 32 v.packet
    rxBits := sat63 v.bitsSeen
    rxStartTime := start
    rxTimeout := timeout
    rxLastAccept := v.lastAccepted
    response := r }

section
variable (cfg : State) (timeout start : Word) (r : Option Response) (v : LoopVars)

/-- The classification in the loop is that of the configuration (R138). -/
theorem classify_loopState (d : Word) (place : RxState) :
    classify d (loopState cfg place timeout start r v) = classify d cfg := rfl

/-- Saturation is not seen by the comparison with a legal packet width (R35). -/
theorem sat63_eq_packetBits_iff {cfg : State} (hw : cfg.packetBits.toNat ≤ 32) (n : Nat) :
    sat63 n = cfg.packetBits ↔ n = cfg.packetBits.toNat := by
  rw [← BitVec.toNat_inj, sat63_toNat]
  omega

/-- Counting on from a saturated count is counting on, saturated (R35). -/
theorem sat63_succ (n : Nat) : sat63 ((sat63 n).toNat + 1) = sat63 (n + 1) := by
  apply BitVec.eq_of_toNat_eq
  simp only [sat63_toNat]
  omega

/-- `complete()` is the source's exit test (R154). -/
theorem rxComplete_loopState_iff {cfg : State} (hw : cfg.packetBits.toNat ≤ 32) (place : RxState) :
    rxComplete (loopState cfg place timeout start r v) = true ↔
      (cfg.hasChecksum = false ∨ Config.checksumValid (BitVec.ofNat 32 v.packet) = true) ∧
        v.bitsSeen = cfg.packetBits.toNat := by
  change ((!cfg.hasChecksum || Config.checksumValid (BitVec.ofNat 32 v.packet)) &&
    decide (sat63 v.bitsSeen = cfg.packetBits)) = true ↔ _
  simp [sat63_eq_packetBits_iff hw]

/-- `expired(now)` is the source's deadline (R155). -/
theorem rxExpired_loopState_iff (now : Word) (place : RxState) :
    rxExpired now (loopState cfg place timeout start r v) = true ↔ timeout ≠ 0 ∧ timeout < elapsed now start := by
  change (decide (timeout ≠ 0) && decide (timeout < elapsed now start)) = true ↔ _
  simp

/-- A packet within the mask is held whole by RX_PACKET, so the shift is the source's (R158). -/
theorem shiftedPacket_loopState {cfg : State} {v : LoopVars} (hw : cfg.packetBits.toNat ≤ 32)
    (hp : v.packet < 2 ^ cfg.packetBits.toNat) (bit : Bool) (place : RxState) :
    shiftedPacket bit (loopState cfg place timeout start r v) =
      BitVec.ofNat 32 ((2 * v.packet + bit.toNat) &&& packetMask cfg) := by
  have hlt : v.packet < 2 ^ 32 := hp.trans_le (Nat.pow_le_pow_right (by decide) hw)
  change BitVec.ofNat 32 ((2 * (BitVec.ofNat 32 v.packet).toNat + bit.toNat) &&& packetMask cfg) = _
  rw [BitVec.toNat_ofNat, Nat.mod_eq_of_lt hlt]

end

/-- A masked value is below 2^packet_bits (R151). -/
theorem and_packetMask_lt (cfg : State) (n : Nat) : n &&& packetMask cfg < 2 ^ cfg.packetBits.toNat := by
  rw [packetMask, Nat.and_two_pow_sub_one_eq_mod]
  exact Nat.mod_lt _ (by positivity)

/-- The source's update keeps the packet within the mask (R156). -/
theorem sourceUpdate_packet_lt (cfg : State) (x : Sample) {v : LoopVars}
    (hp : v.packet < 2 ^ cfg.packetBits.toNat) : (sourceUpdate cfg x v).packet < 2 ^ cfg.packetBits.toNat := by
  have hzero : 0 < 2 ^ cfg.packetBits.toNat := by positivity
  unfold sourceUpdate
  split
  · exact hzero
  · exact and_packetMask_lt _ _
  · exact and_packetMask_lt _ _
  · split
    · exact hzero
    · exact hp

/-- A 1 shifted in, as the source writes it and as R156 does. -/
theorem shiftLeft_one_or_one (n : Nat) : (n <<< 1) ||| 1 = 2 * n + 1 := by
  rw [← Nat.shiftLeft_add_eq_or_of_lt (by decide), Nat.shiftLeft_eq, pow_one, mul_comm]

/-- The source's variables after one more bit, with the shift written as R156 writes it. -/
def LoopVars.acceptBit (v : LoopVars) (cfg : State) (bit : Bool) (now : Word) : LoopVars :=
  { packet := (2 * v.packet + bit.toNat) &&& packetMask cfg, bitsSeen := v.bitsSeen + 1, lastAccepted := now }

/-- On ZERO the source takes a 0 bit (R156, R158). -/
theorem sourceUpdate_of_zero {cfg : State} {x : Sample} (hc : classify x.measured cfg = .zero) (v : LoopVars) :
    sourceUpdate cfg x v = v.acceptBit cfg false x.pulseNow := by
  rw [sourceUpdate, hc, LoopVars.acceptBit, Nat.shiftLeft_eq, pow_one, mul_comm]
  rfl

/-- On ONE the source takes a 1 bit (R156, R158). -/
theorem sourceUpdate_of_one {cfg : State} {x : Sample} (hc : classify x.measured cfg = .one) (v : LoopVars) :
    sourceUpdate cfg x v = v.acceptBit cfg true x.pulseNow := by
  rw [sourceUpdate, hc, shiftLeft_one_or_one]
  rfl

/-- The block takes a bit as the source does, but for the saturation of the count (R156, R158). -/
theorem acceptBit_loopState {cfg : State} (timeout start : Word) (r : Option Response) {v : LoopVars}
    (hw : cfg.packetBits.toNat ≤ 32) (hp : v.packet < 2 ^ cfg.packetBits.toNat) (place : RxState) (bit : Bool)
    (now : Word) :
    acceptBit bit now (loopState cfg place timeout start r v) =
      loopState cfg place timeout start r (v.acceptBit cfg bit now) := by
  have hpacket := shiftedPacket_loopState timeout start r hw hp bit place
  have hcount : sat63 ((sat63 v.bitsSeen).toNat + 1) = sat63 (v.bitsSeen + 1) := sat63_succ v.bitsSeen
  rw [acceptBit, hpacket]
  simp only [loopState, hcount, LoopVars.acceptBit]

/-- One RX.PULSE does to the block what one update does to the source's variables (R156). -/
theorem rxPulseBody_loopState {cfg : State} (timeout start : Word) (r : Option Response) {v : LoopVars}
    (hw : cfg.packetBits.toNat ≤ 32) (hp : v.packet < 2 ^ cfg.packetBits.toNat) (place : RxState) (x : Sample) :
    ∃ answer, rxPulseBody x.measured x.pulseNow (loopState cfg place timeout start r v) =
      loopState cfg .head timeout start (some answer) (sourceUpdate cfg x v) := by
  have hbit (bit : Bool) := acceptBit_loopState timeout start r hw hp place bit x.pulseNow
  obtain ⟨hc, hs⟩ | ⟨hc, hs⟩ | ⟨hc, hs⟩ | ⟨hc, hi, hs⟩ | ⟨hc, hi, hs⟩ :=
    rxPulseBody_cases x.measured x.pulseNow (loopState cfg place timeout start r v) <;>
    rw [classify_loopState] at hc <;> rw [hs]
  · exact ⟨⟨.ok, pulseData false .start⟩, by rw [sourceUpdate, hc]; rfl⟩
  · exact ⟨⟨.ok, pulseData false .zero⟩, by rw [hbit, sourceUpdate_of_zero hc]; rfl⟩
  · exact ⟨⟨.ok, pulseData false .one⟩, by rw [hbit, sourceUpdate_of_one hc]; rfl⟩
  · have hexceeded : cfg.cfgIdle < elapsed x.pulseNow v.lastAccepted := of_decide_eq_true hi
    exact ⟨⟨.ok, pulseData true .unrecognized⟩, by simp only [sourceUpdate, hc, if_pos hexceeded]; rfl⟩
  · have hwithin : ¬ cfg.cfgIdle < elapsed x.pulseNow v.lastAccepted := of_decide_eq_false hi
    exact ⟨⟨.ok, pulseData false .unrecognized⟩, by simp only [sourceUpdate, hc, if_neg hwithin]; rfl⟩

/-- At the loop's head RX.CHECK runs its body, in a configured block that is not faulted (R153, R229). -/
theorem exec_rxCheck_loopState {cfg : State} (hf : cfg.faulted = false) (hv : cfg.configValid = true)
    (timeout start : Word) (r : Option Response) (v : LoopVars) (now : Word) :
    exec (.rxCheck now) (loopState cfg .head timeout start r v) =
      .next (rxCheckBody now (loopState cfg .head timeout start r v)) := by
  have hc : faultOf (.rxCheck now) (loopState cfg .head timeout start r v) = none :=
    (faultOf_eq_none_iff _ _).mpr ⟨fun _ => hv, rfl, rfl⟩
  exact congrArg Host.Outcome.next (afterChecks_of_pass _ _ _ hf hc)

/-- While the loop waits RX.PULSE runs its body, in a configured block that is not faulted (R156, R229). -/
theorem exec_rxPulse_loopState {cfg : State} (hf : cfg.faulted = false) (hv : cfg.configValid = true)
    (timeout start : Word) (r : Option Response) (v : LoopVars) (d now : Word) :
    exec (.rxPulse d now) (loopState cfg .wait timeout start r v) =
      .next (rxPulseBody d now (loopState cfg .wait timeout start r v)) := by
  have hc : faultOf (.rxPulse d now) (loopState cfg .wait timeout start r v) = none :=
    (faultOf_eq_none_iff _ _).mpr ⟨fun _ => hv, rfl, rfl⟩
  exact congrArg Host.Outcome.next (afterChecks_of_pass _ _ _ hf hc)

/-- From the loop's head RECEIVE's loop and the source's give the same result. -/
theorem receiveLoop_loopState {cfg : State} (hf : cfg.faulted = false) (hv : cfg.configValid = true)
    (hw : cfg.packetBits.toNat ≤ 32) (timeout start : Word) (samples : List Sample) (r : Option Response)
    (v : LoopVars) (hp : v.packet < 2 ^ cfg.packetBits.toNat) :
    (receiveLoop samples (loopState cfg .head timeout start r v)).1 = sourceLoop cfg timeout start samples v := by
  induction samples generalizing r v with
  | nil => rfl
  | cons x rest ih =>
    have hdone := rxComplete_loopState_iff timeout start r v hw .head
    have hlate := rxExpired_loopState_iff cfg timeout start r v x.checkNow .head
    have hcheck := exec_rxCheck_loopState hf hv timeout start r v x.checkNow
    obtain ⟨hc, hs⟩ | ⟨hc, he, hs⟩ | ⟨hc, he, hs⟩ :=
      rxCheckBody_cases x.checkNow (loopState cfg .head timeout start r v) <;> rw [hs] at hcheck
    · rw [receiveLoop_of_done x rest _ _ _ hcheck (respond_response _ _ _), sourceLoop, if_pos (hdone.mp hc)]
      rfl
    · have hnot := mt hdone.mpr (by simp [hc])
      rw [receiveLoop_of_timeout x rest _ _ _ hcheck (respond_response _ _ _), sourceLoop, if_neg hnot,
        if_pos (hlate.mp he)]
    · have hnot := mt hdone.mpr (by simp [hc])
      have hearly := mt hlate.mpr (by simp [he])
      obtain ⟨answer, hu⟩ := rxPulseBody_loopState timeout start (some ⟨.rxContinue, 0⟩) hw hp .wait x
      have hpulse := exec_rxPulse_loopState hf hv timeout start (some ⟨.rxContinue, 0⟩) v x.measured x.pulseNow
      rw [hu] at hpulse
      rw [receiveLoop_of_other x rest _ _ _ hcheck nofun nofun hpulse, sourceLoop, if_neg hnot, if_neg hearly]
      exact ih _ _ (sourceUpdate_packet_lt cfg x hp)

/-- Settles O28: RX.START leaves the block at the loop's head with the source's first variables. -/
theorem receiveProcedureIsTheSourceLoop : Obligations.ReceiveProcedureIsTheSourceLoop := by
  intro timeout now samples s hf hv ha hr _ hw
  have hc : faultOf (.rxStart timeout now) s = none :=
    (faultOf_eq_none_iff _ _).mpr ⟨fun _ => hv, ha, by simp [breaksRxSequence, hr]⟩
  have hstart : exec (.rxStart timeout now) s = .next (rxStartBody timeout now s) :=
    congrArg Host.Outcome.next (afterChecks_of_pass _ _ _ hf hc)
  rw [receive, hstart]
  exact receiveLoop_loopState hf hv hw timeout now samples (some ⟨.ok, 0⟩)
    { packet := 0, bitsSeen := 0, lastAccepted := now } (by positivity)

end Sys2Proof.Machine
end

/-! PROOFS. The statements about what the block takes and keeps: the queues of the two agents (R68, R69), the reset
input (R250), the packet ARM takes (R71, R181), and the packet a receive gathers (R63, R158). -/

namespace Sys2Proof.Machine

-- ======== the queues and the reset input ========

/-- An operation takes no input: what the agents still present stays (R43, R69). -/
theorem exec_keeps_queues {i : Instr} {s t : State} (h : exec i s = .next t) :
    t.hostQueue = s.hostQueue ∧ t.tickQueue = s.tickQueue := by
  have hpass := operationsDependOnTheRegistersAlone i s t s.hostQueue s.tickQueue s.arbiter s.response s.issuer h
  have ht : t = { t with
      hostQueue := s.hostQueue, tickQueue := s.tickQueue, arbiter := s.arbiter, issuer := s.issuer } :=
    Host.Outcome.next.inj (h.symm.trans hpass)
  exact ⟨(congrArg State.hostQueue ht :), (congrArg State.tickQueue ht :)⟩

/-- An illegal command word takes no input but itself (R222, R223, R225). -/
theorem illegalCommand_keeps_queues (s : State) :
    (illegalCommand s).hostQueue = s.hostQueue ∧ (illegalCommand s).tickQueue = s.tickQueue := by
  obtain ⟨-, h⟩ | ⟨-, h⟩ := illegalCommand_cases s <;> rw [h] <;> exact ⟨rfl, rfl⟩

/-- Serving an input, reset included, takes no other (R69, R250). -/
theorem serveInput_keeps_queues {agent : Agent} {x : Input} {s t : State} (h : serveInput agent x s = .next t) :
    t.hostQueue = s.hostQueue ∧ t.tickQueue = s.tickQueue := by
  cases x with
  | reset =>
    obtain rfl : applyReset s = t := Host.Outcome.next.inj h
    exact ⟨rfl, rfl⟩
  | transaction w =>
    simp only [serveInput, serveTransaction] at h
    split at h
    · exact exec_keeps_queues (s := { s with issuer := some agent }) h
    · obtain rfl := Host.Outcome.next.inj h
      exact illegalCommand_keeps_queues { s with issuer := some agent }

/-- Settles O6: taking an input removes the head of one queue, and serving it removes nothing more. -/
theorem eachStepTakesTheOldestInputOfOneAgent : Obligations.EachStepTakesTheOldestInputOfOneAgent := by
  intro s t hs
  unfold step at hs
  obtain ⟨hh, ht, htake⟩ | ⟨x, rest, n, hh, htake⟩ | ⟨y, rest, n, ht, htake⟩ := takeInput_cases s <;>
    rw [htake] at hs
  · exact .inl ⟨hh, ht, (Host.Outcome.next.inj hs).symm⟩
  · obtain ⟨hhost, htick⟩ := serveInput_keeps_queues hs
    exact .inr (.inl ⟨x, by rw [hh, hhost], htick⟩)
  · obtain ⟨hhost, htick⟩ := serveInput_keeps_queues hs
    exact .inr (.inr ⟨y, by rw [ht, htick], hhost⟩)

/-- Serving the reset input gives the reset state beside what the agents still present (R250; log entry 3). -/
theorem serveInput_reset (agent : Agent) (s : State) :
    serveInput agent .reset s =
      .next { State.reset with hostQueue := s.hostQueue, tickQueue := s.tickQueue, arbiter := s.arbiter } := rfl

/-- Settles O55: which input the step serves, and what serving the reset input is. -/
theorem resetInputSetsEveryRegister : Obligations.ResetInputSetsEveryRegister := by
  refine ⟨fun s rest hh ht => ?_, fun s rest ht hh => ?_, fun s rest x other hh ht => ?_,
    fun s rest x other ht hh => ?_⟩
  · rw [step_host_only hh ht, serveInput_reset, ht]
  · rw [step_tick_only hh ht, serveInput_reset, hh]
  · rw [step_both hh ht, serveInput_reset, ht]
  · rw [step_both hh ht, serveInput_reset, hh]

-- ======== ARM ========

/-- In a block that is not faulted a well-formed operation that passes the checks runs its body (R229). -/
theorem exec_of_pass {i : Instr} {s : State} (hw : i.wellFormed = true) (hf : s.faulted = false)
    (hc : faultOf i s = none) : exec i s = .next (bodyOf i s) := by
  rw [exec_eq, if_pos hw, afterChecks_of_pass i s _ hf hc]

/-- ARM passes the checks in a configured block that is not receiving, whether or not it is armed (R229). -/
theorem faultOf_arm_eq_none (packet : Word) {s : State} (hv : s.configValid = true) (hr : s.rxState = .idle) :
    faultOf (.arm packet) s = none :=
  (faultOf_eq_none_iff _ _).mpr ⟨fun _ => hv, by simp [breaksHalfDuplex, hr], rfl⟩

/-- Settles O32: ARM passes the checks, and its body is the test-and-set of TX_ARMED. -/
theorem armTakesAPacketOnlyWhenNotArmed : Obligations.ArmTakesAPacketOnlyWhenNotArmed := by
  intro packet s hf hv hr
  have hexec : exec (.arm packet) s = .next (armBody packet s) :=
    exec_of_pass rfl hf (faultOf_arm_eq_none packet hv hr)
  refine ⟨fun ha => ?_, fun ha => ?_⟩
  · rw [hexec, armBody, if_neg (by simp [ha])]
    rfl
  · rw [hexec, armBody, if_pos ha]
    rfl

-- ======== the packet of a list of bits ========

/-- The number whose binary digits are those of `p` and then the bits of the list, the first one the highest. -/
def shiftInBits (p : Nat) (bits : List Bool) : Nat := bits.foldl (fun n b => Nat.bit b n) p

/-- Each bit shifted in moves the digits there were up by one place. -/
theorem shiftInBits_testBit_above (p : Nat) (bits : List Bool) (j : Nat) :
    (shiftInBits p bits).testBit (bits.length + j) = p.testBit j := by
  induction bits generalizing p j with
  | nil => rw [List.length_nil, Nat.zero_add]; rfl
  | cons b rest ih =>
    calc (shiftInBits (Nat.bit b p) rest).testBit (rest.length + 1 + j)
        = (shiftInBits (Nat.bit b p) rest).testBit (rest.length + (j + 1)) := by
          rw [Nat.add_right_comm, Nat.add_assoc]
      _ = (Nat.bit b p).testBit (j + 1) := ih _ _
      _ = p.testBit j := Nat.testBit_bit_succ j b p

/-- The bit shifted in as number `k` stands `k` places below the highest of them (R63). -/
theorem shiftInBits_testBit {bits : List Bool} {k : Nat} {b : Bool} (p : Nat) (hk : bits[k]? = some b) :
    (shiftInBits p bits).testBit (bits.length - 1 - k) = b := by
  induction bits generalizing p k with
  | nil => simp at hk
  | cons c rest ih =>
    cases k with
    | zero =>
      obtain rfl : c = b := by simpa using hk
      exact (shiftInBits_testBit_above (Nat.bit c p) rest 0).trans (Nat.testBit_bit_zero c p)
    | succ k =>
      have hplace : (c :: rest).length - 1 - (k + 1) = rest.length - 1 - k := by
        rw [List.length_cons]; omega
      rw [hplace]
      exact ih (Nat.bit c p) hk

/-- The packet word of a list of at most 32 bits holds them most significant first (R63). -/
theorem packetOfBits_getLsbD {bits : List Bool} (hlen : bits.length ≤ 32) {k : Nat} {b : Bool}
    (hk : bits[k]? = some b) : (BitVec.ofNat 32 (shiftInBits 0 bits)).getLsbD (bits.length - 1 - k) = b := by
  have hlt : k < bits.length := (List.getElem?_eq_some_iff.mp hk).1
  have hplace : bits.length - 1 - k < 32 := by omega
  rw [BitVec.getLsbD_ofNat, shiftInBits_testBit 0 hk, decide_eq_true hplace, Bool.true_and]

/-- The packet word of a list of bits is 0 above them (R34). -/
theorem packetOfBits_getLsbD_above (bits : List Bool) {j : Nat} (hj : bits.length ≤ j) :
    (BitVec.ofNat 32 (shiftInBits 0 bits)).getLsbD j = false := by
  obtain ⟨d, rfl⟩ := Nat.exists_eq_add_of_le hj
  rw [BitVec.getLsbD_ofNat, shiftInBits_testBit_above, Nat.zero_testBit, Bool.and_false]

-- ======== a receive of ZERO and ONE pulses ========

/-- While fewer than `packet_bits` bits are in, the mask cuts nothing off the shifted packet (R156, R158). -/
theorem acceptBit_packet {cfg : State} {v : LoopVars} (hp : v.packet < 2 ^ v.bitsSeen)
    (hn : v.bitsSeen < cfg.packetBits.toNat) (bit : Bool) (now : Word) :
    (v.acceptBit cfg bit now).packet = Nat.bit bit v.packet ∧ Nat.bit bit v.packet < 2 ^ (v.bitsSeen + 1) := by
  have hlt : Nat.bit bit v.packet < 2 ^ (v.bitsSeen + 1) := by
    have hbit := bit.toNat_le
    rw [Nat.bit_val, pow_succ]
    omega
  refine ⟨?_, hlt⟩
  change (2 * v.packet + bit.toNat) &&& packetMask cfg = Nat.bit bit v.packet
  rw [← Nat.bit_val, packetMask, Nat.and_two_pow_sub_one_eq_mod]
  exact Nat.mod_eq_of_lt (hlt.trans_le (Nat.pow_le_pow_right (by decide) hn))

/-- On a pulse classified as a bit the source's loop takes that bit (R156). -/
theorem sourceUpdate_of_bit {cfg : State} {x : Sample} {bit : Bool}
    (hc : classify x.measured cfg = if bit then .one else .zero) (v : LoopVars) :
    sourceUpdate cfg x v = v.acceptBit cfg bit x.pulseNow := by
  cases bit with
  | false => exact sourceUpdate_of_zero hc v
  | true => exact sourceUpdate_of_one hc v

section
variable {cfg : State} (hf : cfg.faulted = false) (hv : cfg.configValid = true) (hw : cfg.packetBits.toNat ≤ 32)
include hf hv hw

/-- One turn of the loop that neither completes nor expires: an RX.CHECK that goes on, and an RX.PULSE that updates
the source's variables (R153, R156). -/
theorem runInstrs_turn {timeout start : Word} {r : Option Response} {v : LoopVars} {x : Sample}
    (hp : v.packet < 2 ^ cfg.packetBits.toNat) (hn : v.bitsSeen ≠ cfg.packetBits.toNat)
    (hearly : ¬ (timeout ≠ 0 ∧ timeout < elapsed x.checkNow start)) (rest : List Instr) :
    ∃ answer, runInstrs (.rxCheck x.checkNow :: .rxPulse x.measured x.pulseNow :: rest)
        (loopState cfg .head timeout start r v) =
      runInstrs rest (loopState cfg .head timeout start (some answer) (sourceUpdate cfg x v)) := by
  have hgoesOn : rxCheckBody x.checkNow (loopState cfg .head timeout start r v) =
      loopState cfg .wait timeout start (some ⟨.rxContinue, 0⟩) v := by
    obtain ⟨hc, -⟩ | ⟨-, he, -⟩ | ⟨-, -, hs⟩ := rxCheckBody_cases x.checkNow (loopState cfg .head timeout start r v)
    · exact absurd ((rxComplete_loopState_iff timeout start r v hw .head).mp hc).2 hn
    · exact absurd ((rxExpired_loopState_iff cfg timeout start r v x.checkNow .head).mp he) hearly
    · exact hs
  have hcheck := exec_rxCheck_loopState hf hv timeout start r v x.checkNow
  rw [hgoesOn] at hcheck
  have hpulse := exec_rxPulse_loopState hf hv timeout start (some ⟨.rxContinue, 0⟩) v x.measured x.pulseNow
  obtain ⟨answer, hu⟩ := rxPulseBody_loopState timeout start (some ⟨.rxContinue, 0⟩) hw hp .wait x
  rw [hu] at hpulse
  exact ⟨answer, by simp only [runInstrs, hcheck, hpulse]⟩

/-- From the loop's head, pulses classified as bits that still fit the packet, none checked past the deadline,
shift those bits in and count them (R156, R158). -/
theorem runInstrs_receiveOps_of_bits {timeout start : Word} {samples : List Sample} {bits : List Bool}
    (hbits : List.Forall₂ (fun (x : Sample) (b : Bool) => classify x.measured cfg = if b then .one else .zero)
      samples bits)
    (hearly : ∀ x ∈ samples, ¬ (timeout ≠ 0 ∧ timeout < elapsed x.checkNow start))
    (r : Option Response) (v : LoopVars) (hp : v.packet < 2 ^ v.bitsSeen)
    (hn : v.bitsSeen + bits.length ≤ cfg.packetBits.toNat) :
    ∃ r' last, runInstrs (receiveOps samples) (loopState cfg .head timeout start r v) =
      .next (loopState cfg .head timeout start r'
        { packet := shiftInBits v.packet bits, bitsSeen := v.bitsSeen + bits.length, lastAccepted := last }) := by
  induction hbits generalizing r v with
  | nil => exact ⟨r, v.lastAccepted, rfl⟩
  | @cons x b samples bits hx _ ih =>
    rw [List.length_cons] at hn
    have hroom : v.bitsSeen < cfg.packetBits.toNat := by omega
    have hmask : v.packet < 2 ^ cfg.packetBits.toNat :=
      hp.trans_le (Nat.pow_le_pow_right (by decide) hroom.le)
    obtain ⟨answer, hturn⟩ := runInstrs_turn hf hv hw (r := r) hmask hroom.ne
      (hearly x List.mem_cons_self) (receiveOps samples)
    rw [sourceUpdate_of_bit hx] at hturn
    obtain ⟨hpacket, hlt⟩ := acceptBit_packet hp hroom b x.pulseNow
    have hcount : (v.acceptBit cfg b x.pulseNow).bitsSeen = v.bitsSeen + 1 := rfl
    obtain ⟨r', last, hrest⟩ := ih (fun y hy => hearly y (List.mem_cons_of_mem x hy)) (some answer)
      (v.acceptBit cfg b x.pulseNow) (by rwa [hpacket, hcount]) (by omega)
    rw [hpacket, hcount, Nat.add_assoc, Nat.add_comm 1] at hrest
    exact ⟨r', last, hturn.trans hrest⟩

/-- With `packet_bits` bits in and no checksum to consult, RX.CHECK completes at any time (R153, R154). -/
theorem exec_rxCheck_of_full (hs : cfg.hasChecksum = false) (timeout start : Word) (r : Option Response)
    {v : LoopVars} (hn : v.bitsSeen = cfg.packetBits.toNat) (now : Word) :
    exec (.rxCheck now) (loopState cfg .head timeout start r v) =
      .next (loopState cfg .idle timeout start (some ⟨.rxDoneOk, BitVec.ofNat 32 v.packet⟩) v) := by
  have hdone : rxComplete (loopState cfg .head timeout start r v) = true :=
    (rxComplete_loopState_iff timeout start r v hw .head).mpr ⟨.inl hs, hn⟩
  rw [exec_rxCheck_loopState hf hv, rxCheckBody, if_pos hdone]
  rfl

end

/-- RX.START enters the loop with the source's first variables (R152). -/
theorem exec_rxStart_loopState {s : State} (hf : s.faulted = false) (hv : s.configValid = true)
    (ha : s.txArmed = false) (hr : s.rxState = .idle) (timeout now : Word) :
    exec (.rxStart timeout now) s =
      .next (loopState s .head timeout now (some ⟨.ok, 0⟩) { packet := 0, bitsSeen := 0, lastAccepted := now }) :=
  exec_of_pass rfl hf ((faultOf_eq_none_iff _ _).mpr ⟨fun _ => hv, ha, by simp [breaksRxSequence, hr]⟩)

/-- Settles O27: RX.START enters the loop with no bits, the pulses shift theirs in, and the full count completes. -/
theorem receivedBitsAreMostSignificantFirst : Obligations.ReceivedBitsAreMostSignificantFirst := by
  intro bits samples timeout now last s hf hv ha hr hs _ hw hlen hbits htime
  have hearly : ∀ x ∈ samples, ¬ (timeout ≠ 0 ∧ timeout < elapsed x.checkNow now) := by
    rintro x hx ⟨hne, hlate⟩
    obtain h0 | hle := htime
    · exact hne h0
    · exact BitVec.not_lt.mpr (hle x hx) hlate
  obtain ⟨r, accepted, hrun⟩ := runInstrs_receiveOps_of_bits hf hv hw hbits hearly (some ⟨.ok, 0⟩)
    { packet := 0, bitsSeen := 0, lastAccepted := now } (Nat.two_pow_pos 0) ((Nat.zero_add _).trans hlen).le
  have hcheck := exec_rxCheck_of_full hf hv hw hs timeout now r
    (v := { packet := shiftInBits 0 bits, bitsSeen := 0 + bits.length, lastAccepted := accepted })
    ((Nat.zero_add _).trans hlen) last
  refine ⟨_, _, BitVec.ofNat 32 (shiftInBits 0 bits), ?_, hcheck, rfl, rfl, fun k b hk => ?_, fun j hj => ?_⟩
  · rw [runInstrs, exec_rxStart_loopState hf hv ha hr]
    exact hrun
  · rw [← hlen]
    exact packetOfBits_getLsbD (by omega) hk
  · exact packetOfBits_getLsbD_above bits (by omega)

end Sys2Proof.Machine


/-! PROOFS. The statements about the encoding, and two that give an operation's whole effect: what the decoder reads and
ignores (R81 to R87), the boot sequence (R93, R252), and the carrier under TICK (R90, R190, R191). -/

namespace Sys2Proof

-- ======== the command word of an operation ========

/-- An operation's command word is its two fields, side by side (R81, R82). -/
theorem encode_cmd_eq_iff (i : Instr) (c : CommandWord) :
    (encode i).cmd = c ↔ highField c = i.highBits ∧ opField c = i.opcode := by
  constructor
  · rintro rfl
    exact ⟨highField_encode i, opField_encode i⟩
  · rintro ⟨hhigh, hop⟩
    rw [encode, ← hhigh, ← hop, fields_append]

open Laws.EncodedCommandIsLegal in
/-- A well-formed operation is sent as one of the legal command words (R86). -/
theorem encode_cmd_mem_legal {i : Instr} (hw : i.wellFormed = true) : (encode i).cmd ∈ legalCommandWords := by
  have hlegal : Statement i := by
    cases i with
    | nop => exact nop
    | cfgWrite idx value => exact cfgWrite idx value
    | cfgCommit => exact cfgCommit
    | arm packet => exact arm packet
    | tick now => exact tick now
    | query selector => exact query selector
    | classify measured => exact classify measured
    | rxStart timeout now => exact rxStart timeout now
    | rxCheck now => exact rxCheck now
    | rxPulse measured now => exact rxPulse measured now
  exact (hlegal hw).1

/-- Each of the listed words is the word of an operation (R86). -/
theorem legalCommandWords_encode :
    ∀ c ∈ legalCommandWords, ∃ i : Instr, i.wellFormed = true ∧ (encode i).cmd = c := by
  simp only [legalCommandWords, List.forall_mem_cons]
  exact ⟨⟨.nop, rfl, rfl⟩, ⟨.cfgCommit, rfl, rfl⟩, ⟨.arm 0, rfl, rfl⟩, ⟨.tick 0, rfl, rfl⟩, ⟨.query 0, rfl, rfl⟩,
    ⟨.classify 0, rfl, rfl⟩, ⟨.rxStart 0 0, rfl, rfl⟩, ⟨.rxCheck 0, rfl, rfl⟩, ⟨.rxPulse 0 0, rfl, rfl⟩,
    ⟨.cfgWrite 0 0, rfl, rfl⟩, ⟨.cfgWrite 1 0, rfl, rfl⟩, ⟨.cfgWrite 2 0, rfl, rfl⟩, ⟨.cfgWrite 3 0, rfl, rfl⟩,
    ⟨.cfgWrite 4 0, rfl, rfl⟩, ⟨.cfgWrite 5 0, rfl, rfl⟩, ⟨.cfgWrite 6 0, rfl, rfl⟩, nofun⟩

-- ======== the operands of an operation ========

/-- The operation with its operands taken from the operand words `a` and `b`, those that the opcode table marks ignored
left out (R83, R84). -/
def Instr.withOperands (i : Instr) (a b : Word) : Instr :=
  match i with
  | .nop => .nop
  | .cfgWrite idx _ => .cfgWrite idx a
  | .cfgCommit => .cfgCommit
  | .arm _ => .arm a
  | .tick _ => .tick a
  | .query _ => .query a
  | .classify _ => .classify a
  | .rxStart _ _ => .rxStart a b
  | .rxCheck _ => .rxCheck a
  | .rxPulse _ _ => .rxPulse a b

/-- The encoder sends every operand that the operation uses (R83, R92). -/
theorem withOperands_encode (i : Instr) : i.withOperands (encode i).a (encode i).b = i := by
  cases i <;> rfl

/-- Operand A is the whole of operand word A, unless the operation is NOP or CFG.COMMIT (R83, R84). -/
theorem withOperands_operandA {i : Instr} (h0 : (encode i).cmd ≠ 0x00) (h2 : (encode i).cmd ≠ 0x02) (a b : Word) :
    (i.withOperands a b).operandA = a := by
  cases i with
  | nop => exact (h0 rfl).elim
  | cfgCommit => exact (h2 rfl).elim
  | _ => rfl

/-- Operand B of RX.START and of RX.PULSE is the whole of operand word B (R83, R84). -/
theorem withOperands_operandB {i : Instr} (h : i.opcode = 0x7 ∨ i.opcode = 0x9) (a b : Word) :
    (i.withOperands a b).operandB = b := by
  cases i with
  | rxStart timeout now => rfl
  | rxPulse measured now => rfl
  | _ => simp [Instr.opcode] at h

/-- No operation but RX.START and RX.PULSE reads operand word B (R83). -/
theorem withOperands_ignores_b {i : Instr} (h7 : (encode i).cmd ≠ 0x07) (h9 : (encode i).cmd ≠ 0x09)
    (a b b' : Word) : i.withOperands a b = i.withOperands a b' := by
  cases i with
  | rxStart timeout now => exact (h7 ((encode_cmd_eq_iff _ _).mpr ⟨rfl, rfl⟩)).elim
  | rxPulse measured now => exact (h9 ((encode_cmd_eq_iff _ _).mpr ⟨rfl, rfl⟩)).elim
  | _ => rfl

/-- NOP and CFG.COMMIT read neither operand word (R83). -/
theorem withOperands_ignores_both {i : Instr} (h : i.opcode = 0x0 ∨ i.opcode = 0x2) (a b : Word) :
    i.withOperands a b = i := by
  cases i with
  | nop => rfl
  | cfgCommit => rfl
  | _ => simp [Instr.opcode] at h

-- ======== what the decoder answers ========

/-- The command word of a well-formed operation decodes to that operation, whatever operand words come with it: they
fill the operands it uses (R84, R87). -/
theorem decode_encode_cmd {i : Instr} (hw : i.wellFormed = true) (a b : Word) :
    decode ⟨(encode i).cmd, a, b⟩ = .legal (i.withOperands a b) := by
  have hhigh := highField_encode i
  have hop := opField_encode i
  generalize (encode i).cmd = c at hhigh hop
  unfold decode
  rw [hop]
  cases i with
  | cfgWrite idx value => exact (decodeFormatI_legal_iff _ _ _).mpr ⟨by rw [hhigh]; exact hw, by rw [hhigh]; rfl⟩
  | _ => exact (decodeFormatN_legal_iff _ _ _).mpr ⟨hhigh, rfl⟩

/-- What the decoder answers, said once: a transaction decodes to the well-formed operation that has its command word
and takes its operands from its operand words, and to no other (R87). -/
theorem decode_legal_iff (t : Transaction) (i : Instr) :
    decode t = .legal i ↔ i.wellFormed = true ∧ (encode i).cmd = t.cmd ∧ i.withOperands t.a t.b = i := by
  constructor
  · intro h
    rw [encode_cmd_eq_iff]
    unfold decode at h
    split at h
    case h_2 hop =>
      obtain ⟨hmapped, rfl⟩ := (decodeFormatI_legal_iff _ _ _).mp h
      exact ⟨hmapped, ⟨rfl, BitVec.eq_of_toNat_eq hop⟩, rfl⟩
    case h_11 => cases h
    all_goals
      obtain ⟨hz, rfl⟩ := (decodeFormatN_legal_iff _ _ _).mp h
      exact ⟨rfl, ⟨hz, BitVec.eq_of_toNat_eq ‹_›⟩, rfl⟩
  · rintro ⟨hw, hcmd, hops⟩
    have h := decode_encode_cmd hw t.a t.b
    rwa [hops, hcmd] at h

/-- Settles O1: the command word decodes to the operation with the operands that the encoder sent, and these are its
own. -/
theorem decodeOfEncodeIsIdentity : Obligations.DecodeOfEncodeIsIdentity := fun i hw =>
  (decode_legal_iff _ _).mpr ⟨hw, rfl, withOperands_encode i⟩

/-- Settles O2: the operation is the one with the word's fields and the operand words that it uses. -/
theorem decodedOperationSpellsItsWordsAndIgnoresTheRest :
    Obligations.DecodedOperationSpellsItsWordsAndIgnoresTheRest := by
  intro t i h
  obtain ⟨hw, hcmd, hops⟩ := (decode_legal_iff t i).mp h
  have hopcode {c : CommandWord} (hc : t.cmd = c) : i.opcode = opField c := by
    rw [← hc, ← hcmd, opField_encode]
  refine ⟨hw, hcmd, fun h0 h2 => ?_, fun h79 => ?_, fun h7 h9 b => ?_, fun h02 a b => ?_⟩
  · rw [← hcmd] at h0 h2
    rw [← withOperands_operandA h0 h2 t.a t.b, hops]
  · rw [← withOperands_operandB (h79.imp hopcode hopcode) t.a t.b, hops]
  · rw [← hcmd] at h7 h9
    exact (decode_legal_iff _ _).mpr ⟨hw, hcmd, (withOperands_ignores_b h7 h9 t.a b t.b).trans hops⟩
  · exact (decode_legal_iff _ _).mpr ⟨hw, hcmd, withOperands_ignores_both (h02.imp hopcode hopcode) a b⟩

/-- A transaction decodes to an operation exactly when its command word is one of the legal ones (R86, R87). -/
theorem decode_legal_iff_mem (t : Transaction) : (∃ i, decode t = .legal i) ↔ t.cmd ∈ legalCommandWords := by
  constructor
  · rintro ⟨i, hi⟩
    obtain ⟨hw, hcmd, -⟩ := (decode_legal_iff t i).mp hi
    exact hcmd ▸ encode_cmd_mem_legal hw
  · intro hmem
    obtain ⟨i, hw, hcmd⟩ := legalCommandWords_encode t.cmd hmem
    exact ⟨_, hcmd ▸ decode_encode_cmd hw t.a t.b⟩

/-- Settles O4: each legal word is the command word of its operation, and each illegal one fails its own check. -/
theorem writtenOutWordsDecode : Obligations.WrittenOutWordsDecode :=
  ⟨decode_encode_cmd (i := .nop) rfl 5 6, decode_encode_cmd (i := .cfgWrite 6 0) rfl 0xFFFFFFFF 6,
    decode_encode_cmd (i := .cfgCommit) rfl 5 6, decode_encode_cmd (i := .arm 0) rfl 10 6,
    decode_encode_cmd (i := .tick 0) rfl 10 6, decode_encode_cmd (i := .query 0) rfl 16 6,
    decode_encode_cmd (i := .classify 0) rfl 24 6, decode_encode_cmd (i := .rxStart 0 0) rfl 100 7,
    decode_encode_cmd (i := .rxCheck 0) rfl 421 7, decode_encode_cmd (i := .rxPulse 0 0) rfl 44 390,
    by decide, by decide, by decide⟩

end Sys2Proof

namespace Sys2Proof.Machine

-- ======== a command word that spells no operation ========

/-- Serving a transaction that decodes to no operation is ILLEGAL_COMMAND, whichever way its word is illegal (R225). -/
theorem serveTransaction_of_not_legal {t : Transaction} (h : ∀ i, decode t ≠ .legal i) (s : State) :
    serveTransaction t s = .next (illegalCommand s) := by
  cases hd : decode t with
  | legal i => exact absurd hd (h i)
  | illegal why => simp only [serveTransaction, hd]

/-- Settles O3: the listed words are those of the well-formed operations, and every other one raises the fault. -/
theorem sixteenLegalWordsAndEveryOtherFaults : Obligations.SixteenLegalWordsAndEveryOtherFaults := by
  refine fun t => ⟨decode_legal_iff_mem t, fun h s hf => ?_⟩
  rw [serveTransaction_of_not_legal h, illegalCommand, if_neg (by simp [hf])]
  rfl

-- ======== the boot sequence ========

/-- A sequence of operations runs its first one and then the rest (R68). -/
theorem runInstrs_cons {i : Instr} {s t : State} (h : exec i s = .next t) (rest : List Instr) :
    runInstrs (i :: rest) s = runInstrs rest t := by
  simp only [runInstrs, h]

/-- In a block that is neither faulted nor configured a sequence that begins with a CFG.WRITE goes on from the state in
which the register is written (R85, R111). -/
theorem runInstrs_cfgWrite_cons {idx : BitVec 4} {r : CfgReg} {v : Word} {rest : List Instr} {s : State}
    {o : Host.Outcome State Fault Refusal} (hr : cfgRegOfIndex idx = some r) (hf : s.faulted = false)
    (hv : s.configValid = false) (h : runInstrs rest (respond .ok 0 (writeCfg r v s)) = o) :
    runInstrs (.cfgWrite idx v :: rest) s = o := by
  rw [runInstrs_cons (exec_cfgWrite_mapped v hr hf hv), h]

/-- In a block that is neither faulted nor configured CFG.COMMIT of a valid configuration sets CONFIG_VALID (R112). -/
theorem exec_cfgCommit_of_valid {s : State} (hf : s.faulted = false) (hv : s.configValid = false)
    (hok : configOk s = true) : exec .cfgCommit s = .next (respond .ok 0 { s with configValid := true }) := by
  rw [exec_of_pass rfl hf rfl, bodyOf, cfgCommitBody, if_neg (by simp [hv]), if_pos hok]

/-- Settles O18: the seven writes each set their register and leave the block neither faulted nor configured, and the
commit finds the configuration valid. -/
theorem bootSequenceConfiguresTheBlock : Obligations.BootSequenceConfiguresTheBlock := by
  intro start short long gap idle tol ctrl s hf hv hok
  refine runInstrs_cfgWrite_cons (r := .start) rfl hf hv ?_
  refine runInstrs_cfgWrite_cons (r := .short) rfl hf hv ?_
  refine runInstrs_cfgWrite_cons (r := .long) rfl hf hv ?_
  refine runInstrs_cfgWrite_cons (r := .gap) rfl hf hv ?_
  refine runInstrs_cfgWrite_cons (r := .idle) rfl hf hv ?_
  refine runInstrs_cfgWrite_cons (r := .tol) rfl hf hv ?_
  refine runInstrs_cfgWrite_cons (r := .ctrl) rfl hf hv ?_
  refine runInstrs_cons (exec_cfgCommit_of_valid ?_ ?_ ?_) []
  exacts [hf, hv, hok]

-- ======== the carrier under TICK ========

/-- The carrier after a call of the Carrier Driver, and as it was where there is no call (R190). -/
def carrierAfter (before : Bool) : Option CarrierCall → Bool
  | none => before
  | some .carrierOn => true
  | some .carrierOff => false

/-- A mark of either symbol turns the carrier on (R190). -/
theorem markCommand_driverCall (bit : Bool) : (markCommand bit).driverCall = some .carrierOn := by
  cases bit <;> rfl

/-- TICK's body leaves CARRIER_EN as the call of the command it emits makes it, and its done bit tells whether it
cleared TX_ARMED (R182, R190, R191). -/
theorem tickBody_emits (now : Word) (s : State) :
    ∃ (done : Bool) (c : CarrierCommand),
      (tickBody now s).response = some ⟨.ok, tickData done c⟩ ∧
      (tickBody now s).carrierEn = carrierAfter s.carrierEn c.driverCall ∧
      (done = true ↔ s.txArmed = true ∧ (tickBody now s).txArmed = false) := by
  obtain ⟨ha, h⟩ | ⟨ha, -, h⟩ | ⟨ha, -, -, h⟩ | ⟨ha, -, -, -, h⟩ | ⟨ha, -, -, -, h⟩ := tickBody_cases now s <;>
    rw [h]
  · exact ⟨false, .off, rfl, rfl, by simp [ha]⟩
  · exact ⟨true, .off, rfl, rfl, by simp [ha]⟩
  · exact ⟨false, .hold, rfl, rfl, by simp [answerTick, ha]⟩
  · exact ⟨false, .gap, rfl, rfl, by simp [ha]⟩
  · exact ⟨false, markCommand (nextBit s), rfl, by rw [markCommand_driverCall]; rfl, by simp [ha]⟩

/-- Settles O38: TICK runs its body in a block that is not faulted, and the driver's call of each command is its row of
the table. -/
theorem carrierFollowsTheEmittedCommand : Obligations.CarrierFollowsTheEmittedCommand := by
  intro now s t hf h
  obtain rfl : tickBody now s = t :=
    Host.Outcome.next.inj ((exec_of_pass rfl hf (faultOf_tick now s)).symm.trans h)
  obtain ⟨done, c, hresponse, hcarrier, hdone⟩ := tickBody_emits now s
  refine ⟨done, c, hresponse, ?_, ?_, ?_, hdone⟩
  · rintro (rfl | rfl) <;> exact ⟨hcarrier, rfl⟩
  · rintro (rfl | rfl) <;> exact ⟨hcarrier, rfl⟩
  · rintro rfl
    exact ⟨hcarrier, rfl⟩

end Sys2Proof.Machine

/-! PROOFS. The statements about the configuration: which ones are valid (R113 to R116), the commit and what it locks
(R112, R118), the polarity bit (R119), and the runs whose operations keep the duties the block checks (R239). -/

namespace Sys2Proof.Machine

-- ======== the overlap of two windows ========

/-- Two references are apart when they differ by more than twice the tolerance (R115). -/
theorem windowsOverlap_eq_false_iff (tol a b : Word) :
    windowsOverlap tol a b = false ↔ 2 * (tol.toNat : Int) < |(a.toNat : Int) - b.toNat| := by
  rw [← Bool.not_eq_true, windowsOverlap_iff, lt_abs]
  omega

/-- A reference overlaps itself (R115). -/
theorem windowsOverlap_self (tol a : Word) : windowsOverlap tol a a = true :=
  (windowsOverlap_iff tol a a).mpr ⟨by omega, by omega⟩

/-- Two windows that share a point overlap (R115). -/
theorem windowsOverlap_of_point {tol a b : Word} {x : Int}
    (ha : (a.toNat : Int) - tol.toNat ≤ x ∧ x ≤ (a.toNat : Int) + tol.toNat)
    (hb : (b.toNat : Int) - tol.toNat ≤ x ∧ x ≤ (b.toNat : Int) + tol.toNat) : windowsOverlap tol a b = true :=
  (windowsOverlap_iff tol a b).mpr ⟨by omega, by omega⟩

/-- When two windows overlap, the upper end of the lower one lies in both (R115). -/
theorem upper_end_in_both_of_overlap {tol a b : Word} (h : windowsOverlap tol a b = true) :
    let x : Int := min (a.toNat : Int) b.toNat + tol.toNat
    0 ≤ x ∧ (a.toNat : Int) - tol.toNat ≤ x ∧ x ≤ (a.toNat : Int) + tol.toNat ∧
      (b.toNat : Int) - tol.toNat ≤ x ∧ x ≤ (b.toNat : Int) + tol.toNat := by
  obtain ⟨hab, hba⟩ := (windowsOverlap_iff tol a b).mp h
  omega

/-- Settles O16: the upper end of the lower window is the shared point. -/
theorem overlapMeansTheWindowsShareAPoint : Obligations.OverlapMeansTheWindowsShareAPoint := by
  refine fun tol a b => ⟨⟨fun h => ?_, ?_⟩, windowsOverlap_self tol a, upper_end_in_both_of_overlap⟩
  · obtain ⟨-, hpoint⟩ := upper_end_in_both_of_overlap h
    exact ⟨_, hpoint⟩
  · rintro ⟨x, ha, ha', hb, hb'⟩
    exact windowsOverlap_of_point ⟨ha, ha'⟩ ⟨hb, hb'⟩

-- ======== the validation of a configuration ========

/-- The window set is disjoint when each of its pairs is; those with start count only when start is not 0 (R116). -/
theorem windowsDisjoint_iff (s : State) :
    windowsDisjoint s = true ↔
      windowsOverlap s.cfgTol s.cfgShort s.cfgLong = false ∧
      windowsOverlap s.cfgTol s.cfgShort s.cfgGap = false ∧
      windowsOverlap s.cfgTol s.cfgLong s.cfgGap = false ∧
      (s.cfgStart ≠ 0 →
        windowsOverlap s.cfgTol s.cfgShort s.cfgStart = false ∧
        windowsOverlap s.cfgTol s.cfgLong s.cfgStart = false ∧
        windowsOverlap s.cfgTol s.cfgGap s.cfgStart = false) := by
  by_cases h0 : s.cfgStart = 0
  · simp [windowsDisjoint, windowSet, pairwiseDisjoint, h0, and_assoc]
  · simp only [windowsDisjoint, windowSet, if_pos h0, List.cons_append, List.nil_append, pairwiseDisjoint,
      List.all_cons, List.all_nil, Bool.and_true, Bool.and_eq_true, Bool.not_eq_true']
    tauto

/-- Settles O15: the packet width and the pairs of the window set are checked, and nothing else is. -/
theorem validConfigurationsAreExactlyTheseOnes : Obligations.ValidConfigurationsAreExactlyTheseOnes := by
  intro s
  simp only [configOk, Bool.and_eq_true, packetBitsOk_iff, windowsDisjoint_iff, windowsOverlap_eq_false_iff]
  rfl

/-- In a block that is neither faulted nor configured CFG.COMMIT of an invalid configuration is rejected (R112). -/
theorem exec_cfgCommit_of_invalid {s : State} (hf : s.faulted = false) (hv : s.configValid = false)
    (hok : configOk s = false) : exec .cfgCommit s = .next (respond .invalidConfiguration 0 s) := by
  rw [exec_of_pass rfl hf rfl, bodyOf, cfgCommitBody, if_neg (by simp [hv]), if_neg (by simp [hok])]

/-- Settles O14: the validation decides which of the two outcomes the commit has. -/
theorem cfgCommitValidatesTheConfiguration : Obligations.CfgCommitValidatesTheConfiguration :=
  fun _ hf hv => ⟨exec_cfgCommit_of_valid hf hv, exec_cfgCommit_of_invalid hf hv⟩

-- ======== a committed configuration ========

/-- The seven configuration registers and CONFIG_VALID: what a commit locks (R118). -/
def State.config (s : State) : List Word × Bool :=
  ([s.cfgStart, s.cfgShort, s.cfgLong, s.cfgGap, s.cfgIdle, s.cfgTol, s.cfgCtrl], s.configValid)

/-- The configuration is the same exactly when each of its registers is. -/
theorem config_eq_iff (s t : State) :
    t.config = s.config ↔
      t.cfgStart = s.cfgStart ∧ t.cfgShort = s.cfgShort ∧ t.cfgLong = s.cfgLong ∧ t.cfgGap = s.cfgGap ∧
      t.cfgIdle = s.cfgIdle ∧ t.cfgTol = s.cfgTol ∧ t.cfgCtrl = s.cfgCtrl ∧ t.configValid = s.configValid := by
  simp [State.config, and_assoc]

/-- After a commit CFG.WRITE's body answers CONFIG_LOCKED and does nothing (R118). -/
theorem cfgWriteBody_of_committed {s : State} (hv : s.configValid = true) (r : CfgReg) (v : Word) :
    cfgWriteBody r v s = respond .configLocked 0 s := if_pos hv

/-- After a commit CFG.COMMIT's body answers CONFIG_LOCKED and does nothing (R118). -/
theorem cfgCommitBody_of_committed {s : State} (hv : s.configValid = true) :
    cfgCommitBody s = respond .configLocked 0 s := if_pos hv

/-- ARM's body writes no configuration register and raises no fault (R181). -/
theorem armBody_frame (packet : Word) (s : State) :
    (armBody packet s).config = s.config ∧ (armBody packet s).faulted = s.faulted := by
  unfold armBody
  split <;> exact ⟨rfl, rfl⟩

/-- TICK's body writes no configuration register and raises no fault (R182). -/
theorem tickBody_frame (now : Word) (s : State) :
    (tickBody now s).config = s.config ∧ (tickBody now s).faulted = s.faulted := by
  obtain ⟨-, h⟩ | ⟨-, -, h⟩ | ⟨-, -, -, h⟩ | ⟨-, -, -, -, h⟩ | ⟨-, -, -, -, h⟩ := tickBody_cases now s <;>
    rw [h] <;> exact ⟨rfl, rfl⟩

/-- RX.CHECK's body writes no configuration register and raises no fault (R153). -/
theorem rxCheckBody_frame (now : Word) (s : State) :
    (rxCheckBody now s).config = s.config ∧ (rxCheckBody now s).faulted = s.faulted := by
  obtain ⟨-, h⟩ | ⟨-, -, h⟩ | ⟨-, -, h⟩ := rxCheckBody_cases now s <;> rw [h] <;> exact ⟨rfl, rfl⟩

/-- RX.PULSE's body writes no configuration register and raises no fault (R156). -/
theorem rxPulseBody_frame (d now : Word) (s : State) :
    (rxPulseBody d now s).config = s.config ∧ (rxPulseBody d now s).faulted = s.faulted := by
  obtain ⟨-, h⟩ | ⟨-, h⟩ | ⟨-, h⟩ | ⟨-, -, h⟩ | ⟨-, -, h⟩ := rxPulseBody_cases d now s <;> rw [h] <;>
    exact ⟨rfl, rfl⟩

/-- After a commit no operation's body changes the configuration (R118). -/
theorem bodyOf_config {s : State} (hv : s.configValid = true) (i : Instr) : (bodyOf i s).config = s.config := by
  cases i with
  | cfgWrite idx v =>
    simp only [bodyOf, cfgWriteBody_of_committed hv]
    cases cfgRegOfIndex idx <;> rfl
  | cfgCommit =>
    rw [bodyOf, cfgCommitBody_of_committed hv]
    rfl
  | arm packet => exact (armBody_frame packet s).1
  | tick now => exact (tickBody_frame now s).1
  | rxCheck now => exact (rxCheckBody_frame now s).1
  | rxPulse d now => exact (rxPulseBody_frame d now s).1
  | nop | query | classify | rxStart => rfl

/-- An illegal command word changes no configuration register (R222, R223, R225). -/
theorem illegalCommand_config (s : State) : (illegalCommand s).config = s.config := by
  obtain ⟨-, h⟩ | ⟨-, h⟩ := illegalCommand_cases s <;> rw [h] <;> rfl

/-- A faulted block's answers change no configuration register, and neither does the body of QUERY, the one it still
runs (R212, R223). -/
theorem faultedAnswer_getD_config (i : Instr) (s : State) :
    ((faultedAnswer i s).getD (bodyOf i s)).config = s.config := by
  cases i <;> rfl

/-- After a commit no operation changes the configuration (R118). -/
theorem exec_config {i : Instr} {s t : State} (hv : s.configValid = true) (h : exec i s = .next t) :
    t.config = s.config := by
  rw [exec_eq] at h
  obtain rfl := Host.Outcome.next.inj h
  split
  · obtain ⟨-, -, hs⟩ | ⟨-, c, -, hs⟩ | ⟨-, hs⟩ := afterChecks_cases i s (bodyOf i s) <;> rw [hs]
    · exact bodyOf_config hv i
    · rfl
    · exact faultedAnswer_getD_config i s
  · exact illegalCommand_config s

/-- After a commit no transaction changes the configuration, whether or not its word is legal (R118). -/
theorem serveTransaction_config {w : Transaction} {s t : State} (hv : s.configValid = true)
    (h : serveTransaction w s = .next t) : t.config = s.config := by
  unfold serveTransaction at h
  split at h
  · exact exec_config hv h
  · obtain rfl := Host.Outcome.next.inj h
    exact illegalCommand_config s

/-- After a commit CFG.WRITE of a mapped index answers CONFIG_LOCKED (R111, R118). -/
theorem exec_cfgWrite_of_committed {idx : BitVec 4} (v : Word) {s : State} (hi : idx.toNat ≤ 6)
    (hf : s.faulted = false) (hv : s.configValid = true) :
    exec (.cfgWrite idx v) s = .next (respond .configLocked 0 s) := by
  have hw : (Instr.cfgWrite idx v).wellFormed = true := decide_eq_true hi
  obtain ⟨r, hr⟩ := Option.isSome_iff_exists.mp ((cfgRegOfIndex_isSome idx).trans hw)
  rw [exec_of_pass hw hf rfl, bodyOf, hr, Option.elim_some, cfgWriteBody_of_committed hv]

/-- Settles O17: no transaction changes what a commit locks, and the bodies of the two writers answer CONFIG_LOCKED. -/
theorem committedConfigurationIsImmutable : Obligations.CommittedConfigurationIsImmutable := by
  refine fun s hv => ⟨fun w t h => ?_, fun hf => ⟨fun idx v hi => exec_cfgWrite_of_committed v hi hf hv, ?_⟩⟩
  · have hsame := (config_eq_iff s t).mp (serveTransaction_config hv h)
    rwa [hv] at hsame
  · rw [exec_of_pass rfl hf rfl, bodyOf, cfgCommitBody_of_committed hv]
    rfl

-- ======== the polarity bit ========

/-- The state with ACTIVE_LEVEL, bit 9 of CFG_CTRL, flipped (R24, R119). -/
def State.flipPolarity (s : State) : State := { s with cfgCtrl := s.cfgCtrl ^^^ 0x200 }

section
variable (s : State)

/-- The polarity bit is no part of PACKET_BITS (R24). -/
theorem packetBits_flipPolarity : s.flipPolarity.packetBits = s.packetBits := by
  simp [State.flipPolarity, State.packetBits, BitVec.extractLsb'_xor]

/-- The polarity bit is not HAS_CHECKSUM (R24). -/
theorem hasChecksum_flipPolarity : s.flipPolarity.hasChecksum = s.hasChecksum := by
  simp [State.flipPolarity, State.hasChecksum]

/-- The validation does not read the polarity bit (R113, R119). -/
theorem configOk_flipPolarity : configOk s.flipPolarity = configOk s := by
  rw [configOk, packetBitsOk, packetBits_flipPolarity]
  rfl

/-- CFG.COMMIT's body passes the polarity bit through (R119). -/
theorem cfgCommitBody_flipPolarity : cfgCommitBody s.flipPolarity = (cfgCommitBody s).flipPolarity := by
  simp only [cfgCommitBody, configOk_flipPolarity, apply_ite State.flipPolarity]
  rfl

/-- ARM's body passes the polarity bit through (R119). -/
theorem armBody_flipPolarity (packet : Word) :
    armBody packet s.flipPolarity = (armBody packet s).flipPolarity := by
  simp only [armBody, packetBits_flipPolarity, apply_ite State.flipPolarity]
  rfl

/-- The length of a phase does not depend on the polarity bit (R119, R183). -/
theorem midPhase_flipPolarity (now : Word) : midPhase now s.flipPolarity = midPhase now s := by
  rw [midPhase, phaseDuration, packetBits_flipPolarity]
  rfl

/-- TICK's body passes the polarity bit through (R119). -/
theorem tickBody_flipPolarity (now : Word) : tickBody now s.flipPolarity = (tickBody now s).flipPolarity := by
  simp only [tickBody, midPhase_flipPolarity, apply_ite State.flipPolarity]
  rfl

/-- `complete()` does not read the polarity bit (R119, R154). -/
theorem rxComplete_flipPolarity : rxComplete s.flipPolarity = rxComplete s := by
  rw [rxComplete, hasChecksum_flipPolarity, packetBits_flipPolarity]
  rfl

/-- RX.CHECK's body passes the polarity bit through (R119). -/
theorem rxCheckBody_flipPolarity (now : Word) :
    rxCheckBody now s.flipPolarity = (rxCheckBody now s).flipPolarity := by
  simp only [rxCheckBody, rxComplete_flipPolarity, apply_ite State.flipPolarity]
  rfl

/-- A bit is shifted in the same under either polarity (R119, R158). -/
theorem acceptBit_flipPolarity (bit : Bool) (now : Word) :
    acceptBit bit now s.flipPolarity = (acceptBit bit now s).flipPolarity := by
  rw [acceptBit, shiftedPacket, packetMask, packetBits_flipPolarity]
  rfl

/-- RX.PULSE's body passes the polarity bit through (R119). -/
theorem rxPulseBody_flipPolarity (d now : Word) :
    rxPulseBody d now s.flipPolarity = (rxPulseBody d now s).flipPolarity := by
  have hsame : classify d s.flipPolarity = classify d s := rfl
  simp only [rxPulseBody, hsame, acceptBit_flipPolarity]
  cases classify d s with
  | start | zero | one => rfl
  | unrecognized =>
    simp only [apply_ite State.flipPolarity]
    rfl

/-- The body of every operation but QUERY and CFG.WRITE passes the polarity bit through (R119). -/
theorem bodyOf_flipPolarity {i : Instr} (hquery : ∀ a, i ≠ .query a) (hwrite : ∀ idx v, i ≠ .cfgWrite idx v) :
    bodyOf i s.flipPolarity = (bodyOf i s).flipPolarity := by
  cases i with
  | query a => exact absurd rfl (hquery a)
  | cfgWrite idx v => exact absurd rfl (hwrite idx v)
  | cfgCommit => exact cfgCommitBody_flipPolarity s
  | arm packet => exact armBody_flipPolarity s packet
  | tick now => exact tickBody_flipPolarity s now
  | rxCheck now => exact rxCheckBody_flipPolarity s now
  | rxPulse d now => exact rxPulseBody_flipPolarity s d now
  | nop | classify | rxStart => rfl

/-- The checks of R229 do not read the polarity bit. -/
theorem faultOf_flipPolarity (i : Instr) : faultOf i s.flipPolarity = faultOf i s := by
  cases i <;> rfl

/-- The answers of a faulted block pass the polarity bit through (R223). -/
theorem faultedAnswer_flipPolarity (i : Instr) :
    faultedAnswer i s.flipPolarity = (faultedAnswer i s).map State.flipPolarity := by
  cases i <;> rfl

/-- The checks and a body after them pass the polarity bit through (R119, R229). -/
theorem afterChecks_flipPolarity (i : Instr) (body : State) :
    afterChecks i s.flipPolarity body.flipPolarity = (afterChecks i s body).flipPolarity := by
  have hcheck : precheck i s.flipPolarity = (precheck i s).map State.flipPolarity := by
    rw [precheck, precheck, faultOf_flipPolarity, faultedAnswer_flipPolarity, apply_ite (Option.map _),
      Option.map_map]
    rfl
  rw [afterChecks, hcheck, Option.getD_map, afterChecks]

/-- An illegal command word passes the polarity bit through (R225). -/
theorem illegalCommand_flipPolarity : illegalCommand s.flipPolarity = (illegalCommand s).flipPolarity := by
  simp only [illegalCommand, apply_ite State.flipPolarity]
  rfl

end

/-- Settles O46: neither the checks nor the bodies read the polarity bit, and each passes it through. -/
theorem polarityChangesNoOperation : Obligations.PolarityChangesNoOperation := by
  intro i s t hquery hwrite h
  rw [exec_eq] at h
  obtain rfl := Host.Outcome.next.inj h
  change exec i s.flipPolarity = .next (State.flipPolarity _)
  rw [exec_eq, apply_ite State.flipPolarity, bodyOf_flipPolarity s hquery hwrite, afterChecks_flipPolarity,
    illegalCommand_flipPolarity]

-- ======== a run that keeps the duties the block checks ========

/-- CFG.WRITE's body raises no fault (R111). -/
theorem cfgWriteBody_faulted (r : CfgReg) (v : Word) (s : State) : (cfgWriteBody r v s).faulted = s.faulted := by
  unfold cfgWriteBody
  split
  · rfl
  · exact (congrArg State.faulted (writeCfg_frame r v s) :)

/-- CFG.COMMIT's body raises no fault (R112). -/
theorem cfgCommitBody_faulted (s : State) : (cfgCommitBody s).faulted = s.faulted := by
  unfold cfgCommitBody
  split_ifs <;> rfl

/-- No operation's body touches FAULTED: only the checks raise a fault (R222, R229). -/
theorem bodyOf_faulted (i : Instr) (s : State) : (bodyOf i s).faulted = s.faulted := by
  cases i with
  | cfgWrite idx v =>
    rw [bodyOf]
    cases cfgRegOfIndex idx with
    | none => rfl
    | some r => exact cfgWriteBody_faulted r v s
  | cfgCommit => exact cfgCommitBody_faulted s
  | arm packet => exact (armBody_frame packet s).2
  | tick now => exact (tickBody_frame now s).2
  | rxCheck now => exact (rxCheckBody_frame now s).2
  | rxPulse d now => exact (rxPulseBody_frame d now s).2
  | nop | query | classify | rxStart => rfl

/-- The response does not turn its operation away: no fault, no re-arm rejected, no configuration locked (R239). -/
def Response.accepts (r : Response) : Prop :=
  r.status ≠ .fault ∧ r.status ≠ .rearmRejected ∧ r.status ≠ .configLocked

/-- OK turns nothing away. -/
theorem accepts_ok (data : Word) : (⟨.ok, data⟩ : Response).accepts := ⟨nofun, nofun, nofun⟩

/-- RX.CHECK's body turns nothing away, a timeout included (R153, R230). -/
theorem rxCheckBody_accepts (now : Word) (s : State) :
    ∃ r, (rxCheckBody now s).response = some r ∧ r.accepts := by
  obtain ⟨-, h⟩ | ⟨-, -, h⟩ | ⟨-, -, h⟩ := rxCheckBody_cases now s <;> rw [h] <;>
    exact ⟨_, rfl, nofun, nofun, nofun⟩

/-- RX.PULSE's body answers OK whatever the symbol (R156). -/
theorem rxPulseBody_response (d now : Word) (s : State) :
    ∃ data, (rxPulseBody d now s).response = some ⟨.ok, data⟩ := by
  obtain ⟨-, h⟩ | ⟨-, h⟩ | ⟨-, h⟩ | ⟨-, -, h⟩ | ⟨-, -, h⟩ := rxPulseBody_cases d now s <;> rw [h] <;>
    exact ⟨_, rfl⟩

/-- The body of an operation in order turns it away in no case: a write or a commit finds nothing locked, and
an ARM finds nothing in flight (R239). -/
theorem bodyOf_accepts {agent : Agent} {i : Instr} {s : State} (h : operationInOrder agent i s = true) :
    ∃ r, (bodyOf i s).response = some r ∧ r.accepts := by
  cases i with
  | nop | query | classify | rxStart => exact ⟨_, rfl, accepts_ok _⟩
  | cfgWrite idx v =>
    simp only [operationInOrder, Bool.and_eq_true, Bool.not_eq_true'] at h
    obtain ⟨⟨-, hw⟩, hv⟩ := h
    obtain ⟨r, hr⟩ := Option.isSome_iff_exists.mp ((cfgRegOfIndex_isSome idx).trans hw)
    rw [bodyOf, hr, Option.elim_some, cfgWriteBody, if_neg (by simp [hv])]
    exact ⟨_, rfl, accepts_ok 0⟩
  | cfgCommit =>
    simp only [operationInOrder, Bool.and_eq_true, Bool.not_eq_true'] at h
    obtain ⟨-, hv⟩ := h
    rw [bodyOf, cfgCommitBody, if_neg (by simp [hv])]
    split
    · exact ⟨_, rfl, accepts_ok 0⟩
    · exact ⟨_, rfl, nofun, nofun, nofun⟩
  | arm packet =>
    simp only [operationInOrder, Bool.and_eq_true, Bool.not_eq_true'] at h
    obtain ⟨⟨-, ha⟩, -⟩ := h
    rw [bodyOf, armBody, if_neg (by simp [ha])]
    exact ⟨_, rfl, accepts_ok 0⟩
  | tick now =>
    obtain ⟨done, c, hr⟩ := tickBody_response now s
    exact ⟨_, hr, accepts_ok _⟩
  | rxCheck now => exact rxCheckBody_accepts now s
  | rxPulse d now =>
    obtain ⟨data, hr⟩ := rxPulseBody_response d now s
    exact ⟨_, hr, accepts_ok data⟩

/-- In a block that is not faulted an operation in order raises no fault and is not turned away (R239). -/
theorem exec_of_inOrder_accepts {agent : Agent} {i : Instr} {s t : State} (hf : s.faulted = false)
    (ho : operationInOrder agent i s = true) (h : exec i s = .next t) :
    t.faulted = false ∧ ∃ r, t.response = some r ∧ r.accepts := by
  obtain rfl : bodyOf i s = t := Host.Outcome.next.inj ((exec_of_inOrder agent i s hf ho).symm.trans h)
  exact ⟨(bodyOf_faulted i s).trans hf, bodyOf_accepts ho⟩

/-- A run is in order when its first operation is, and the rest on the state that one leaves (R239). -/
theorem operationsInOrder_cons {x : TimedOp} {s t : State} (h : exec x.instr s = .next t) (rest : List TimedOp) :
    operationsInOrder s (x :: rest) = true ↔
      operationInOrder x.agent x.instr s = true ∧ operationsInOrder t rest = true := by
  simp only [operationsInOrder, h, Bool.and_eq_true]

/-- The responses to a sequence are that of its first operation and then those to the rest (R11). -/
theorem responsesOf_cons {i : Instr} {s t : State} {r : Response} (h : exec i s = .next t)
    (hr : t.response = some r) (rest : List Instr) : responsesOf (i :: rest) s = r :: responsesOf rest t := by
  simp only [responsesOf, h, hr, Option.toList_some, List.singleton_append]

/-- Settles O57, by induction on the run: each operation in order leaves the block not faulted for the next. -/
theorem runsInOrderAreNeverTurnedAway : Obligations.RunsInOrderAreNeverTurnedAway := by
  intro ops
  induction ops with
  | nil => exact fun s hf _ => ⟨⟨s, rfl, hf⟩, nofun⟩
  | cons x rest ih =>
    intro s hf ho
    obtain ⟨t, -, ht, -⟩ := exec_answers x.instr s
    obtain ⟨hx, hrest⟩ := (operationsInOrder_cons ht rest).mp ho
    obtain ⟨hft, r, hr, haccepts⟩ := exec_of_inOrder_accepts hf hx ht
    obtain ⟨hrun, hresponses⟩ := ih t hft hrest
    rw [List.map_cons, runInstrs_cons ht, responsesOf_cons ht hr]
    exact ⟨hrun, List.forall_mem_cons.mpr ⟨haccepts, hresponses⟩⟩

end Sys2Proof.Machine

/-! PROOFS. The statements about the timing classifier (41_classifier.md): the window that decides a symbol (R130, R131,
R137), the symbol of each window of a valid configuration (R134, R135, R138), and the duration 0 (R132, R136). -/

namespace Sys2Proof.Machine

-- ======== the window test ========

/-- The window test as R130 writes it, in unbounded integers. -/
theorem inWindow_iff_int (tol ref d : Word) :
    inWindow tol ref d = true ↔
      (ref.toNat : Int) - tol.toNat ≤ (d.toNat : Int) ∧ (d.toNat : Int) ≤ (ref.toNat : Int) + tol.toNat :=
  decide_eq_true_iff

/-- The duration 0 lies in the window of a reference that is at most the tolerance (R136). -/
theorem inWindow_zero_iff (tol ref : Word) : inWindow tol ref 0 = true ↔ ref ≤ tol := by
  simp [inWindow_iff, BitVec.le_def]

/-- The order of the two references plays no part in their overlap (R115). -/
theorem windowsOverlap_comm (tol a b : Word) : windowsOverlap tol a b = windowsOverlap tol b a := by
  rw [Bool.eq_iff_iff, windowsOverlap_iff, windowsOverlap_iff, and_comm]

/-- A duration in one of two windows that do not overlap is not in the other: it would be a shared point (R115). -/
theorem not_inWindow_of_disjoint {tol a b d : Word} (hab : windowsOverlap tol a b = false)
    (ha : inWindow tol a d = true) : ¬inWindow tol b d = true := fun hb => by
  have hshared := windowsOverlap_of_point ((inWindow_iff_int tol a d).mp ha) ((inWindow_iff_int tol b d).mp hb)
  exact Bool.false_ne_true (hab.symm.trans hshared)

-- ======== when each symbol is returned ========

/-- The duration lies in the START window, which counts only when `cfg.start` is not 0 (R132). -/
def inStartWindow (d : Word) (s : State) : Prop := s.cfgStart ≠ 0 ∧ inWindow s.cfgTol s.cfgStart d = true

/-- What the order of the tests in R131 asks of a duration, for each symbol. -/
def symbolCondition (d : Word) (s : State) : Symbol → Prop
  | .start => inStartWindow d s
  | .zero => ¬inStartWindow d s ∧ inWindow s.cfgTol s.cfgShort d = true
  | .one =>
    ¬inStartWindow d s ∧ ¬inWindow s.cfgTol s.cfgShort d = true ∧ inWindow s.cfgTol s.cfgLong d = true
  | .unrecognized =>
    ¬inStartWindow d s ∧ ¬inWindow s.cfgTol s.cfgShort d = true ∧ ¬inWindow s.cfgTol s.cfgLong d = true

/-- A symbol is returned exactly under its condition, along the four branches of the classifier (R131). -/
theorem classify_eq_iff (d : Word) (s : State) (sym : Symbol) :
    classify d s = sym ↔ symbolCondition d s sym := by
  unfold classify
  split_ifs with hstart hshort hlong
  · change inStartWindow d s at hstart
    cases sym <;> simp [symbolCondition, hstart]
  all_goals change ¬inStartWindow d s at hstart
  · cases sym <;> simp [symbolCondition, hstart, hshort]
  · cases sym <;> simp [symbolCondition, hstart, hshort, hlong]
  · cases sym <;> simp [symbolCondition, hstart, hshort, hlong]

-- ======== CLASSIFY ========

/-- CLASSIFY passes the checks in a configured block (R229). -/
theorem faultOf_classify_eq_none (d : Word) {s : State} (hv : s.configValid = true) :
    faultOf (.classify d) s = none :=
  (faultOf_eq_none_iff _ _).mpr ⟨fun _ => hv, rfl, rfl⟩

/-- In a configured block that is not faulted CLASSIFY answers the symbol's code and writes no register (R137). -/
theorem exec_classify_of_symbol {d : Word} {s : State} {sym : Symbol} (hf : s.faulted = false)
    (hv : s.configValid = true) (hc : classify d s = sym) :
    exec (.classify d) s = .next { s with response := some ⟨.ok, classifyData sym⟩ } := by
  rw [exec_of_pass rfl hf (faultOf_classify_eq_none d hv), bodyOf, hc]
  rfl

/-- Settles O19: the symbol is that of the first window that holds the duration, and CLASSIFY answers its code. -/
theorem classifyReportsTheFirstWindow : Obligations.ClassifyReportsTheFirstWindow := by
  intro d s hf hv
  simp only [← inWindow_iff_int]
  exact ⟨fun h => exec_classify_of_symbol hf hv ((classify_eq_iff d s .start).mpr h),
    fun h => exec_classify_of_symbol hf hv ((classify_eq_iff d s .zero).mpr h),
    fun h => exec_classify_of_symbol hf hv ((classify_eq_iff d s .one).mpr h),
    fun h => exec_classify_of_symbol hf hv ((classify_eq_iff d s .unrecognized).mpr h)⟩

-- ======== the windows of a valid configuration ========

section ValidConfiguration

variable {d : Word} {s : State}

/-- Under a valid configuration a duration in the window of `cfg.short` is ZERO: START's window is apart (R134). -/
theorem classify_of_inWindow_short (hok : configOk s = true) (hd : inWindow s.cfgTol s.cfgShort d = true) :
    classify d s = .zero := by
  obtain ⟨-, -, -, -, hstart⟩ := configOk_cases s hok
  refine (classify_eq_iff d s .zero).mpr ⟨fun ⟨h0, hin⟩ => ?_, hd⟩
  obtain ⟨hshort, -, -⟩ := hstart h0
  exact not_inWindow_of_disjoint hshort hd hin

/-- Under a valid configuration a duration in the window of `cfg.long` is ONE: the two windows tested before it are
apart from it (R134). -/
theorem classify_of_inWindow_long (hok : configOk s = true) (hd : inWindow s.cfgTol s.cfgLong d = true) :
    classify d s = .one := by
  obtain ⟨-, hshort, -, -, hstart⟩ := configOk_cases s hok
  rw [windowsOverlap_comm] at hshort
  refine (classify_eq_iff d s .one).mpr ⟨fun ⟨h0, hin⟩ => ?_, not_inWindow_of_disjoint hshort hd, hd⟩
  obtain ⟨-, hlong, -⟩ := hstart h0
  exact not_inWindow_of_disjoint hlong hd hin

/-- Under a valid configuration a duration in the window of `cfg.gap` is UNRECOGNIZED: the three windows of the symbols
are apart from it (R135). -/
theorem classify_of_inWindow_gap (hok : configOk s = true) (hd : inWindow s.cfgTol s.cfgGap d = true) :
    classify d s = .unrecognized := by
  obtain ⟨-, -, hshort, hlong, hstart⟩ := configOk_cases s hok
  rw [windowsOverlap_comm] at hshort hlong
  refine (classify_eq_iff d s .unrecognized).mpr
    ⟨fun ⟨h0, hin⟩ => ?_, not_inWindow_of_disjoint hshort hd, not_inWindow_of_disjoint hlong hd⟩
  obtain ⟨-, -, hgap⟩ := hstart h0
  exact not_inWindow_of_disjoint hgap hd hin

end ValidConfiguration

/-- In a configured block no operation changes the classification, since none changes the configuration (R118, R138). -/
theorem classify_of_exec (d : Word) {i : Instr} {s t : State} (hv : s.configValid = true)
    (h : exec i s = .next t) : classify d t = classify d s := by
  obtain ⟨hstart, hshort, hlong, -, -, htol, -⟩ := (config_eq_iff s t).mp (exec_config hv h)
  exact classify_congr d s t hstart hshort hlong htol

/-- Settles O20: the windows of a valid configuration are pairwise disjoint, so the order of the tests plays no part. -/
theorem everyWindowHasItsSymbol : Obligations.EveryWindowHasItsSymbol := by
  refine ⟨fun d s hok => ⟨fun h0 hlo hhi => ?_, fun hlo hhi => ?_, fun hlo hhi => ?_⟩, classify_congr,
    fun d _ _ _ hv h => classify_of_exec d hv h⟩
  · exact (classify_eq_iff d s .start).mpr ⟨h0, (inWindow_iff _ _ d).mpr ⟨hlo, hhi⟩⟩
  · exact classify_of_inWindow_short hok ((inWindow_iff _ _ d).mpr ⟨hlo, hhi⟩)
  · exact classify_of_inWindow_long hok ((inWindow_iff _ _ d).mpr ⟨hlo, hhi⟩)

/-- Settles O21: the gap's window is disjoint from the windows of the three symbols. -/
theorem gapPulseIsUnrecognized : Obligations.GapPulseIsUnrecognized := by
  refine ⟨fun sym => by cases sym <;> simp, fun d s hok hlo hhi => ?_⟩
  exact classify_of_inWindow_gap hok ((inWindow_iff _ _ d).mpr ⟨hlo, hhi⟩)

-- ======== the duration 0 and the disabled start pulse ========

/-- Settles O22: the window of a reference holds 0 when the reference is at most the tolerance, and START is tested only
when `cfg.start` is not 0. -/
theorem zeroDurationAndDisabledStart : Obligations.ZeroDurationAndDisabledStart := by
  refine fun s => ⟨?_, fun h0 d hc => ?_⟩
  · simp only [classify_eq_iff, symbolCondition, inStartWindow, inWindow_zero_iff]
    tauto
  · obtain ⟨hne, -⟩ := (classify_eq_iff d s .start).mp hc
    exact hne h0

end Sys2Proof.Machine

/-! PROOFS. The statements about the receive accumulator (42_receive.md): what RX.START, RX.CHECK and RX.PULSE do
(R152 to R159), the receives that never end (R163, R164), and the receive that counts past `packet_bits` (R161). -/

namespace Sys2Proof.Machine

-- ======== RX.START ========

/-- Settles O23: in the states named RX.START passes the checks, and its body enters the loop. -/
theorem rxStartBeginsAReceive : Obligations.RxStartBeginsAReceive :=
  fun timeout now _ hf hv ha hr => exec_rxStart_loopState hf hv ha hr timeout now

-- ======== RX.CHECK ========

/-- `complete()`: the count is `packet_bits`, and the checksum holds or is not asked for (R154). -/
theorem rxComplete_iff (s : State) :
    rxComplete s = true ↔
      (s.hasChecksum = false ∨ Config.checksumValid s.rxPacket = true) ∧ s.rxBits = s.packetBits := by
  simp [rxComplete]

/-- `expired(now)`: there is a timeout, and strictly more time has elapsed (R155). -/
theorem rxExpired_iff (now : Word) (s : State) :
    rxExpired now s = true ↔ s.rxTimeout ≠ 0 ∧ s.rxTimeout.toNat < (now - s.rxStartTime).toNat := by
  simp [rxExpired, elapsed, BitVec.lt_def]

/-- At the loop's head RX.CHECK passes the checks of a configured block that is not faulted (R229). -/
theorem exec_rxCheck_of_head {s : State} (hf : s.faulted = false) (hv : s.configValid = true)
    (hr : s.rxState = .head) (now : Word) : exec (.rxCheck now) s = .next (rxCheckBody now s) :=
  exec_of_pass rfl hf ((faultOf_eq_none_iff _ _).mpr ⟨fun _ => hv, rfl, by simp [breaksRxSequence, hr]⟩)

/-- Settles O24: the two tests of RX.CHECK's body, completion first, decide which of its three answers is given. -/
theorem rxCheckDecidesTheLoop : Obligations.RxCheckDecidesTheLoop := by
  intro now s hf hv hr complete expired
  have hcomplete : rxComplete s = true ↔ complete := rxComplete_iff s
  have hexpired : rxExpired now s = true ↔ expired := rxExpired_iff now s
  rw [exec_rxCheck_of_head hf hv hr, rxCheckBody]
  refine ⟨fun hc => ?_, fun ⟨hc, he⟩ => ?_, fun ⟨hc, he⟩ => ?_⟩
  · rw [if_pos (hcomplete.mpr hc)]
    rfl
  · rw [if_neg (mt hcomplete.mp hc), if_pos (hexpired.mpr he)]
    rfl
  · rw [if_neg (mt hcomplete.mp hc), if_neg (mt hexpired.mp he)]
    rfl

-- ======== RX.PULSE ========

/-- The packet mask keeps the shifted packet modulo 2^packet_bits (R151, R158). -/
theorem shiftedPacket_eq_mod (bit : Bool) (s : State) :
    shiftedPacket bit s = BitVec.ofNat 32 ((2 * s.rxPacket.toNat + bit.toNat) % 2 ^ s.packetBits.toNat) := by
  rw [shiftedPacket, packetMask, Nat.and_two_pow_sub_one_eq_mod]

/-- The idle gap is exceeded when strictly more than `cfg.idle` has passed since the last accepted symbol (R159). -/
theorem idleExceeded_iff (now : Word) (s : State) :
    idleExceeded now s = true ↔ s.cfgIdle.toNat < (now - s.rxLastAccept).toNat := by
  simp [idleExceeded, elapsed, BitVec.lt_def]

/-- While the loop waits RX.PULSE passes the checks of a configured block that is not faulted (R229). -/
theorem exec_rxPulse_of_wait {s : State} (hf : s.faulted = false) (hv : s.configValid = true)
    (hr : s.rxState = .wait) (d now : Word) : exec (.rxPulse d now) s = .next (rxPulseBody d now s) :=
  exec_of_pass rfl hf ((faultOf_eq_none_iff _ _).mpr ⟨fun _ => hv, rfl, by simp [breaksRxSequence, hr]⟩)

/-- Settles O25: the symbol selects the branch of RX.PULSE's body, and for an UNRECOGNIZED the idle gap does. -/
theorem rxPulseUpdatesTheAccumulator : Obligations.RxPulseUpdatesTheAccumulator := by
  intro d now s hf hv hr shifted
  rw [exec_rxPulse_of_wait hf hv hr, rxPulseBody]
  refine ⟨fun hc => ?_, fun hc => ?_, fun hc => ?_, fun hc hidle => ?_, fun hc hidle => ?_⟩ <;> rw [hc]
  · rfl
  · simp only [acceptBit, shiftedPacket_eq_mod]
    rfl
  · simp only [acceptBit, shiftedPacket_eq_mod]
    rfl
  · simp only [if_pos ((idleExceeded_iff now s).mpr hidle)]
    rfl
  · simp only [if_neg (mt (idleExceeded_iff now s).mp (by omega))]
    rfl

-- ======== a receive that is fed no recognized pulse ========

/-- The variables of a receive that has accepted no symbol since its RX.START at `start` (R152). -/
def noBitsSince (start : Word) : LoopVars := { packet := 0, bitsSeen := 0, lastAccepted := start }

/-- With no bits in and no deadline RX.CHECK goes on at any time (R153, R155). -/
theorem rxCheckBody_of_noBits {cfg : State} (hw : 1 ≤ cfg.packetBits.toNat) (start : Word) (r : Option Response)
    (now : Word) :
    rxCheckBody now (loopState cfg .head 0 start r (noBitsSince start)) =
      loopState cfg .wait 0 start (some ⟨.rxContinue, 0⟩) (noBitsSince start) := by
  obtain ⟨hc, -⟩ | ⟨-, he, -⟩ | ⟨-, -, hs⟩ :=
    rxCheckBody_cases now (loopState cfg .head 0 start r (noBitsSince start))
  · obtain ⟨-, hfull⟩ := (rxComplete_iff _).mp hc
    have hzero : 0 = cfg.packetBits.toNat := congrArg BitVec.toNat hfull
    omega
  · obtain ⟨htimeout, -⟩ := (rxExpired_iff now _).mp he
    exact absurd rfl htimeout
  · exact hs

/-- With no bits in an UNRECOGNIZED leaves the accumulator as it is, past the idle gap too (R156, R159). -/
theorem rxPulseBody_of_noBits {cfg : State} {d : Word} (hc : classify d cfg = .unrecognized) (start : Word)
    (r : Option Response) (now : Word) :
    ∃ answer, rxPulseBody d now (loopState cfg .wait 0 start r (noBitsSince start)) =
      loopState cfg .head 0 start (some answer) (noBitsSince start) := by
  rw [rxPulseBody, classify_loopState, hc]
  cases hi : idleExceeded now (loopState cfg .wait 0 start r (noBitsSince start)) with
  | true => exact ⟨⟨.ok, pulseData true .unrecognized⟩, by simp only [if_true]; rfl⟩
  | false => exact ⟨⟨.ok, pulseData false .unrecognized⟩, by simp only [Bool.false_eq_true, if_false]; rfl⟩

/-- With no bits in and no deadline RECEIVE's loop goes round for every UNRECOGNIZED (R163). -/
theorem receiveLoop_of_noBits {cfg : State} (hf : cfg.faulted = false) (hv : cfg.configValid = true)
    (hw : 1 ≤ cfg.packetBits.toNat) (start : Word) (samples : List Sample)
    (hc : ∀ x ∈ samples, classify x.measured cfg = .unrecognized) (r : Option Response) :
    (receiveLoop samples (loopState cfg .head 0 start r (noBitsSince start))).1 = .waiting := by
  induction samples generalizing r with
  | nil => rfl
  | cons x rest ih =>
    obtain ⟨hx, hrest⟩ := List.forall_mem_cons.mp hc
    have hcheck := exec_rxCheck_loopState hf hv 0 start r (noBitsSince start) x.checkNow
    rw [rxCheckBody_of_noBits hw] at hcheck
    have hpulse := exec_rxPulse_loopState hf hv 0 start (some ⟨.rxContinue, 0⟩) (noBitsSince start) x.measured
      x.pulseNow
    obtain ⟨answer, hu⟩ := rxPulseBody_of_noBits hx start (some ⟨.rxContinue, 0⟩) x.pulseNow
    rw [hu] at hpulse
    rw [receiveLoop_of_other x rest _ _ _ hcheck nofun nofun hpulse]
    exact ih hrest (some answer)

/-- Settles O29: RX.START enters the loop with no bits in, and no sample changes that. -/
theorem unboundedReceiveNeverEnds : Obligations.UnboundedReceiveNeverEnds := by
  intro now samples s hf hv ha hr hw hc
  rw [receive, exec_rxStart_loopState hf hv ha hr]
  exact receiveLoop_of_noBits hf hv hw now samples hc (some ⟨.ok, 0⟩)

-- ======== a receive that faults ========

/-- A faulted block answers every well-formed operation but QUERY and TICK with its fault code alone (R223). -/
theorem exec_of_faulted {i : Instr} {s : State} (hw : i.wellFormed = true)
    (hi : faultedAnswer i s = some (answerFaulted s)) (hf : s.faulted = true) :
    exec i s = .next (answerFaulted s) := by
  rw [exec_eq, if_pos hw, afterChecks_of_faulted _ _ _ hf, hi, Option.getD_some]

/-- RECEIVE's loop in a faulted block goes round for every sample, and the block stays faulted (R164, R223). -/
theorem receiveLoop_of_faulted (samples : List Sample) {s : State} (hf : s.faulted = true) :
    (receiveLoop samples s).1 = .waiting ∧ (receiveLoop samples s).2.faulted = true := by
  induction samples generalizing s with
  | nil => exact ⟨rfl, hf⟩
  | cons x rest ih =>
    have hcheck : exec (.rxCheck x.checkNow) s = .next (answerFaulted s) := exec_of_faulted rfl rfl hf
    have hpulse : exec (.rxPulse x.measured x.pulseNow) (answerFaulted s) = .next (answerFaulted (answerFaulted s)) :=
      exec_of_faulted rfl rfl hf
    rw [receiveLoop_of_other x rest _ _ _ hcheck nofun nofun hpulse]
    exact ih hf

/-- RX.START leaves a block faulted that is faulted, not configured, armed or receiving (R223, R226 to R228). -/
theorem exec_rxStart_of_violation {s : State}
    (h : s.faulted = true ∨ s.configValid = false ∨ s.txArmed = true ∨ s.rxState ≠ .idle) (timeout now : Word) :
    ∃ t, exec (.rxStart timeout now) s = .next t ∧ t.faulted = true := by
  cases hf : s.faulted with
  | true => exact ⟨answerFaulted s, exec_of_faulted rfl rfl hf, hf⟩
  | false =>
    cases hc : faultOf (.rxStart timeout now) s with
    | some c => exact ⟨raiseFault c s, congrArg Host.Outcome.next (afterChecks_of_fault _ _ _ c hf hc), rfl⟩
    | none =>
      obtain ⟨hconf, hduplex, hseq⟩ := (faultOf_eq_none_iff _ _).mp hc
      have hv : s.configValid = true := hconf rfl
      have ha : s.txArmed = false := hduplex
      have hr : s.rxState = .idle := by simpa [breaksRxSequence] using hseq
      simp [hf, hv, ha, hr] at h

/-- Settles O30: RX.START leaves the block faulted, and RECEIVE's loop does not end in a faulted block. -/
theorem faultedReceiveLoopsOn : Obligations.FaultedReceiveLoopsOn := by
  intro timeout now samples s h
  obtain ⟨t, hstart, hf⟩ := exec_rxStart_of_violation h timeout now
  rw [receive, hstart]
  exact receiveLoop_of_faulted samples hf

-- ======== a receive past packet_bits ========

/-- A well-formed operation other than QUERY and TICK runs its body, or it answers FAULT and leaves the count of bits
and the packet width (R222, R223, R229). -/
theorem exec_runs_or_faults {i : Instr} {s t : State} (hw : i.wellFormed = true)
    (hi : faultedAnswer i s = some (answerFaulted s)) (h : exec i s = .next t) :
    t = bodyOf i s ∨
      (∃ data, t.response = some ⟨.fault, data⟩) ∧ t.rxBits = s.rxBits ∧ t.packetBits = s.packetBits := by
  rw [exec_eq, if_pos hw] at h
  obtain rfl := Host.Outcome.next.inj h
  obtain ⟨-, -, hs⟩ | ⟨-, c, -, hs⟩ | ⟨-, hs⟩ := afterChecks_cases i s (bodyOf i s) <;> rw [hs]
  · exact .inl rfl
  · exact .inr ⟨⟨_, rfl⟩, rfl, rfl⟩
  · rw [hi]
    exact .inr ⟨⟨_, rfl⟩, rfl, rfl⟩

/-- RX.PULSE's body clears the count and reports a START or an idle reset, counts one more and reports a ZERO or a
ONE, or reports neither and leaves the count (R89, R156). -/
theorem rxPulseBody_count (d now : Word) (s : State) :
    ∃ data, (rxPulseBody d now s).response = some ⟨.ok, data⟩ ∧
      ((data = 1 ∨ data = 4) ∧ (rxPulseBody d now s).rxBits = 0 ∨
       (data = 2 ∨ data = 3) ∧ (rxPulseBody d now s).rxBits = sat63 (s.rxBits.toNat + 1) ∨
       data = 0 ∧ (rxPulseBody d now s).rxBits = s.rxBits) := by
  obtain ⟨-, h⟩ | ⟨-, h⟩ | ⟨-, h⟩ | ⟨-, -, h⟩ | ⟨-, -, h⟩ := rxPulseBody_cases d now s <;> rw [h]
  · exact ⟨1, rfl, .inl ⟨.inl rfl, rfl⟩⟩
  · exact ⟨2, rfl, .inr (.inl ⟨.inl rfl, rfl⟩)⟩
  · exact ⟨3, rfl, .inr (.inl ⟨.inr rfl, rfl⟩)⟩
  · exact ⟨4, rfl, .inl ⟨.inr rfl, rfl⟩⟩
  · exact ⟨0, rfl, .inr (.inr ⟨rfl, rfl⟩)⟩

/-- RX.PULSE's body leaves the packet width (R156). -/
theorem rxPulseBody_packetBits (d now : Word) (s : State) : (rxPulseBody d now s).packetBits = s.packetBits := by
  obtain ⟨-, -, -, -, -, -, hctrl, -⟩ := (config_eq_iff _ _).mp (rxPulseBody_frame d now s).1
  rw [State.packetBits, hctrl, State.packetBits]

/-- RX.CHECK's body leaves the count of bits (R153). -/
theorem rxCheckBody_rxBits (now : Word) (s : State) : (rxCheckBody now s).rxBits = s.rxBits := by
  obtain ⟨-, h⟩ | ⟨-, -, h⟩ | ⟨-, -, h⟩ := rxCheckBody_cases now s <;> rw [h] <;> rfl

/-- RX.CHECK's body answers RX_DONE_OK only with a full count (R153, R154). -/
theorem rxBits_of_rxCheckBody_done {now p : Word} {s : State}
    (h : (rxCheckBody now s).response = some ⟨.rxDoneOk, p⟩) : s.rxBits = s.packetBits := by
  obtain ⟨hc, -⟩ | ⟨-, -, hs⟩ | ⟨-, -, hs⟩ := rxCheckBody_cases now s
  · obtain ⟨-, hfull⟩ := (rxComplete_iff s).mp hc
    exact hfull
  · exact absurd h (by rw [hs]; nofun)
  · exact absurd h (by rw [hs]; nofun)

section
variable {s t : State}

/-- A ZERO or a ONE is counted, also at a full count (R156, R161). -/
theorem rxBits_of_exec_rxPulse_bit {d now : Word} (h : exec (.rxPulse d now) s = .next t)
    (hbit : t.response = some ⟨.ok, 2⟩ ∨ t.response = some ⟨.ok, 3⟩) : t.rxBits = sat63 (s.rxBits.toNat + 1) := by
  obtain rfl | ⟨⟨data, hfault⟩, -⟩ := exec_runs_or_faults rfl rfl h
  · obtain ⟨data, hanswer, hcount⟩ := rxPulseBody_count d now s
    change (rxPulseBody d now s).response = _ ∨ (rxPulseBody d now s).response = _ at hbit
    obtain ⟨rfl | rfl, -⟩ | ⟨-, hone⟩ | ⟨rfl, -⟩ := hcount
    · simp [hanswer] at hbit
    · simp [hanswer] at hbit
    · exact hone
    · simp [hanswer] at hbit
  · simp [hfault] at hbit

/-- RX.CHECK keeps the count of bits and answers RX_DONE_OK only when it is full (R154). -/
theorem exec_rxCheck_count {now : Word} (h : exec (.rxCheck now) s = .next t) :
    t.rxBits = s.rxBits ∧ ∀ p, t.response = some ⟨.rxDoneOk, p⟩ → s.rxBits = s.packetBits := by
  obtain rfl | ⟨⟨data, hfault⟩, hkept, -⟩ := exec_runs_or_faults rfl rfl h
  · exact ⟨rxCheckBody_rxBits now s, fun p => rxBits_of_rxCheckBody_done⟩
  · exact ⟨hkept, fun p hdone => by simp [hfault] at hdone⟩

/-- RX.PULSE lets the count of bits fall only where it reports a START or an idle reset: counting on from at most 63
saturates at 63 (R35, R156). -/
theorem exec_rxPulse_count {d now : Word} (h : exec (.rxPulse d now) s = .next t) :
    t.packetBits = s.packetBits ∧
      (s.rxBits.toNat ≤ t.rxBits.toNat ∨
        t.rxBits = 0 ∧ (t.response = some ⟨.ok, 1⟩ ∨ t.response = some ⟨.ok, 4⟩)) := by
  obtain rfl | ⟨-, hkept, hwidth⟩ := exec_runs_or_faults rfl rfl h
  · refine ⟨rxPulseBody_packetBits d now s, ?_⟩
    obtain ⟨data, hanswer, hcount⟩ := rxPulseBody_count d now s
    change s.rxBits.toNat ≤ (rxPulseBody d now s).rxBits.toNat ∨
      (rxPulseBody d now s).rxBits = 0 ∧ ((rxPulseBody d now s).response = _ ∨ (rxPulseBody d now s).response = _)
    obtain ⟨hreset, hzero⟩ | ⟨-, hone⟩ | ⟨-, hsame⟩ := hcount
    · exact .inr ⟨hzero, by simpa [hanswer] using hreset⟩
    · rw [hone, sat63_toNat]
      omega
    · exact .inl (by rw [hsame])
  · exact ⟨hwidth, .inl (by rw [hkept])⟩

end

/-- Settles O31: a legal width is well below the count's saturation, so one more than it is counted as such, and from
there the count falls only by a clear. -/
theorem overshotReceiveCompletesOnlyAfterAReset : Obligations.OvershotReceiveCompletesOnlyAfterAReset := by
  refine fun s hw => ⟨fun d now t _ hfull h hbit => ?_, fun now t hover h => ?_, fun d now t hover h => ?_⟩
  · rw [rxBits_of_exec_rxPulse_bit h hbit, sat63_toNat, hfull]
    omega
  · obtain ⟨hkept, hdone⟩ := exec_rxCheck_count h
    exact ⟨hkept, fun p hp => hover.ne (congrArg BitVec.toNat (hdone p hp)).symm⟩
  · obtain ⟨hwidth, hcount⟩ := exec_rxPulse_count h
    rw [hwidth]
    exact hcount.imp_left hover.trans_le

end Sys2Proof.Machine

/-! PROOFS. The statements about the transmit scheduler (43_transmit.md): what one TICK does in each phase (R182 to
R188), which operations write the transmitter (R180, R193), and what the TICKs of a whole armed cycle answer, whatever
their times (R192), paced at least a phase apart (R253), and evenly spaced (R195). -/

namespace Sys2Proof.Machine

-- ======== one TICK ========

/-- In a block that is not faulted TICK runs its body: no check of R229 applies to it. -/
theorem exec_tick_of_unfaulted {s : State} (hf : s.faulted = false) (now : Word) :
    exec (.tick now) s = .next (tickBody now s) :=
  exec_of_pass rfl hf (faultOf_tick now s)

/-- In a block that is neither faulted nor armed TICK turns the carrier off (R188). -/
theorem exec_tick_of_idle {s : State} (hf : s.faulted = false) (ha : s.txArmed = false) (now : Word) :
    exec (.tick now) s = .next (tickIdle s) := by
  rw [exec_tick_of_unfaulted hf, tickBody_of_idle now ha]

/-- Settles O33: the state that the first TICK leaves is neither faulted nor armed either, and its carrier is off. -/
theorem tickWhenNotArmedIsIdempotent : Obligations.TickWhenNotArmedIsIdempotent :=
  fun now later s hf ha => ⟨exec_tick_of_idle hf ha now, exec_tick_of_idle (s := tickIdle s) hf ha later⟩

/-- Settles O34: no bits left is tested before the elapsed time. -/
theorem tickWithNoBitsLeftCompletes : Obligations.TickWithNoBitsLeftCompletes := by
  intro now s hf ha hn
  rw [exec_tick_of_unfaulted hf, tickBody_of_done now ha hn]
  rfl

-- ======== the length of a phase ========

/-- A TICK is within the phase when less than the phase's duration has passed since it began (R182). -/
theorem midPhase_iff (now : Word) (s : State) :
    midPhase now s = true ↔ (now - s.txLastTime).toNat < (phaseDuration s).toNat := by
  simp [midPhase, elapsed, BitVec.lt_def]

/-- A TICK is past the phase when at least the phase's duration has passed since it began (R182). -/
theorem midPhase_eq_false_iff (now : Word) (s : State) :
    midPhase now s = false ↔ (phaseDuration s).toNat ≤ (now - s.txLastTime).toNat := by
  rw [← Bool.not_eq_true, midPhase_iff, not_lt]

section
variable {s : State}

/-- A gap lasts `cfg.gap` (R183). -/
theorem phaseDuration_of_gap (hg : s.txInGap = true) : phaseDuration s = s.cfgGap := by
  simp [phaseDuration, hg]

/-- The pre-phase lasts no time (R184). -/
theorem phaseDuration_of_prePhase (hg : s.txInGap = false) (hp : s.txRemaining = s.packetBits) :
    phaseDuration s = 0 := by
  simp [phaseDuration, hg, hp]

/-- A mark lasts the symbol duration of the bit that TX_REMAINING indexes (R183). -/
theorem phaseDuration_of_mark (hg : s.txInGap = false) (hp : s.txRemaining ≠ s.packetBits) :
    phaseDuration s = symbolDuration s (s.txBuffer.getLsbD s.txRemaining.toNat) := by
  simp [phaseDuration, symbolDuration, hg, hp]

/-- Every TICK in the pre-phase is past it, whatever TX_LAST_TIME holds (R184). -/
theorem midPhase_of_prePhase (hg : s.txInGap = false) (hp : s.txRemaining = s.packetBits) (now : Word) :
    midPhase now s = false := by
  rw [midPhase_eq_false_iff, phaseDuration_of_prePhase hg hp]
  exact Nat.zero_le _

end

/-- Settles O35: in each of the three cases the time that has passed is below the phase's duration. -/
theorem tickWithinAPhaseHolds : Obligations.TickWithinAPhaseHolds := by
  intro now s hf ha hn h
  have hmid : midPhase now s = true := by
    rw [midPhase_iff]
    obtain ⟨hg, hlt⟩ | ⟨hg, hp, hbit, hlt⟩ | ⟨hg, hp, hbit, hlt⟩ := h
    · rwa [phaseDuration_of_gap hg]
    · rwa [phaseDuration_of_mark hg hp, hbit]
    · rwa [phaseDuration_of_mark hg hp, hbit]
  rw [exec_tick_of_unfaulted hf, tickBody_of_midPhase ha hn hmid]
  rfl

/-- Settles O36: in the pre-phase, and past the mark's duration, step 3 of TICK does not hold. -/
theorem tickPastAMarkEntersTheGap : Obligations.TickPastAMarkEntersTheGap := by
  intro now s hf ha hn hg h
  have hpast : midPhase now s = false := by
    by_cases hp : s.txRemaining = s.packetBits
    · exact midPhase_of_prePhase hg hp now
    · rw [midPhase_eq_false_iff, phaseDuration_of_mark hg hp]
      obtain hpre | ⟨hbit, hle⟩ | ⟨hbit, hle⟩ := h
      · exact absurd hpre hp
      · rwa [hbit]
      · rwa [hbit]
  rw [exec_tick_of_unfaulted hf, tickBody_of_mark_past ha hn hpast hg]
  rfl

/-- The response of a TICK that marks a bit, by its command (R89, R186). -/
theorem tickData_markCommand (bit : Bool) : tickData false (markCommand bit) = if bit then 4 else 3 := by
  cases bit <;> rfl

/-- Settles O37: past the gap's duration step 3 of TICK does not hold, and mark entry marks the next bit. -/
theorem tickPastAGapEntersTheMark : Obligations.TickPastAGapEntersTheMark := by
  intro now s hf ha hn hg hle
  have hpast : midPhase now s = false := by
    rwa [midPhase_eq_false_iff, phaseDuration_of_gap hg]
  rw [exec_tick_of_unfaulted hf, tickBody_of_gap_past ha hn hpast hg, enterMark, answerTick,
    tickData_markCommand]
  rfl

-- ======== which operations write the transmitter ========

/-- Everything an operation can do: its body runs, it enters the fault state, or a faulted block answers it (R222,
R223, R229). -/
theorem exec_cases {i : Instr} {s t : State} (h : exec i s = .next t) :
    t = bodyOf i s ∨ (s.faulted = false ∧ ∃ c, t = raiseFault c s) ∨
      (s.faulted = true ∧ (t = answerFaulted s ∨ (∃ now, i = .tick now) ∧ t = answerFaultedTick s)) := by
  rw [exec_eq] at h
  obtain rfl := Host.Outcome.next.inj h
  split
  · obtain ⟨-, -, hs⟩ | ⟨hf, c, -, hs⟩ | ⟨hf, hs⟩ := afterChecks_cases i s (bodyOf i s) <;> rw [hs]
    · exact .inl rfl
    · exact .inr (.inl ⟨hf, c, rfl⟩)
    · cases i with
      | query selector => exact .inl rfl
      | tick now => exact .inr (.inr ⟨hf, .inr ⟨⟨now, rfl⟩, rfl⟩⟩)
      | _ => exact .inr (.inr ⟨hf, .inl rfl⟩)
  · obtain ⟨hf, hs⟩ | ⟨hf, hs⟩ := illegalCommand_cases s <;> rw [hs]
    · exact .inr (.inl ⟨hf, _, rfl⟩)
    · exact .inr (.inr ⟨hf, .inl rfl⟩)

/-- The six registers of the transmitter (R180). -/
def State.transmitter (s : State) : (Bool × Bool × BitVec 6 × Word × Word) × Bool :=
  ((s.txArmed, s.txInGap, s.txRemaining, s.txBuffer, s.txLastTime), s.carrierEn)

/-- The transmitter is the same exactly when each of its registers is. -/
theorem transmitter_eq_iff (s t : State) :
    t.transmitter = s.transmitter ↔
      (t.txArmed = s.txArmed ∧ t.txInGap = s.txInGap ∧ t.txRemaining = s.txRemaining ∧ t.txBuffer = s.txBuffer ∧
        t.txLastTime = s.txLastTime) ∧ t.carrierEn = s.carrierEn := by
  simp [State.transmitter]

/-- CFG.WRITE's body writes no register of the transmitter (R111). -/
theorem cfgWriteBody_transmitter (r : CfgReg) (v : Word) (s : State) :
    (cfgWriteBody r v s).transmitter = s.transmitter := by
  unfold cfgWriteBody
  split
  · rfl
  · exact (congrArg State.transmitter (writeCfg_frame r v s) :)

/-- CFG.COMMIT's body writes no register of the transmitter (R112). -/
theorem cfgCommitBody_transmitter (s : State) : (cfgCommitBody s).transmitter = s.transmitter := by
  unfold cfgCommitBody
  split_ifs <;> rfl

/-- RX.CHECK's body writes no register of the transmitter (R153). -/
theorem rxCheckBody_transmitter (now : Word) (s : State) : (rxCheckBody now s).transmitter = s.transmitter := by
  obtain ⟨-, h⟩ | ⟨-, -, h⟩ | ⟨-, -, h⟩ := rxCheckBody_cases now s <;> rw [h] <;> rfl

/-- RX.PULSE's body writes no register of the transmitter (R156). -/
theorem rxPulseBody_transmitter (d now : Word) (s : State) : (rxPulseBody d now s).transmitter = s.transmitter := by
  obtain ⟨-, h⟩ | ⟨-, h⟩ | ⟨-, h⟩ | ⟨-, -, h⟩ | ⟨-, -, h⟩ := rxPulseBody_cases d now s <;> rw [h] <;> rfl

/-- No operation's body but those of ARM and TICK writes a register of the transmitter (R180). -/
theorem bodyOf_transmitter {i : Instr} (harm : ∀ p, i ≠ .arm p) (htick : ∀ now, i ≠ .tick now) (s : State) :
    (bodyOf i s).transmitter = s.transmitter := by
  cases i with
  | cfgWrite idx v =>
    rw [bodyOf]
    cases cfgRegOfIndex idx with
    | none => rfl
    | some r => exact cfgWriteBody_transmitter r v s
  | cfgCommit => exact cfgCommitBody_transmitter s
  | arm packet => exact absurd rfl (harm packet)
  | tick now => exact absurd rfl (htick now)
  | rxCheck now => exact rxCheckBody_transmitter now s
  | rxPulse d now => exact rxPulseBody_transmitter d now s
  | nop | query | classify | rxStart => rfl

/-- Settles O40: a body other than ARM's and TICK's writes no register of the transmitter, and entering the fault state
writes CARRIER_EN alone. -/
theorem onlyArmAndTickWriteTheTransmitter : Obligations.OnlyArmAndTickWriteTheTransmitter := by
  intro i s t harm htick h
  obtain rfl | ⟨hf, c, rfl⟩ | ⟨-, rfl | ⟨⟨now, hi⟩, -⟩⟩ := exec_cases h
  · obtain ⟨⟨harmed, hgap, hremaining, hbuffer, hlast⟩, hcarrier⟩ :=
      (transmitter_eq_iff _ _).mp (bodyOf_transmitter harm htick s)
    exact ⟨harmed, hgap, hremaining, hbuffer, hlast, .inl hcarrier⟩
  · exact ⟨rfl, rfl, rfl, rfl, rfl, .inr ⟨hf, rfl, rfl⟩⟩
  · exact ⟨rfl, rfl, rfl, rfl, rfl, .inl rfl⟩
  · exact absurd hi (htick now)

/-- While armed ARM's body rejects the packet and does nothing (R181). -/
theorem armBody_of_armed {s : State} (ha : s.txArmed = true) (packet : Word) :
    armBody packet s = respond .rearmRejected 0 s := if_pos ha

/-- While armed no operation's body writes TX_BUFFER, and only that of the completing TICK clears TX_ARMED (R193). -/
theorem bodyOf_of_armed {s : State} (ha : s.txArmed = true) (i : Instr) :
    (bodyOf i s).txBuffer = s.txBuffer ∧
      ((bodyOf i s).txArmed = true ∨
        (∃ now, i = .tick now) ∧ s.txRemaining = 0 ∧ (bodyOf i s).response = some ⟨.ok, 9⟩) := by
  by_cases harm : ∃ packet, i = .arm packet
  · obtain ⟨packet, rfl⟩ := harm
    rw [bodyOf, armBody_of_armed ha]
    exact ⟨rfl, .inl ha⟩
  by_cases htick : ∃ now, i = .tick now
  · obtain ⟨now, rfl⟩ := htick
    rw [bodyOf]
    obtain ⟨hidle, -⟩ | ⟨-, hn, h⟩ | ⟨-, -, -, h⟩ | ⟨-, -, -, -, h⟩ | ⟨-, -, -, -, h⟩ := tickBody_cases now s
    · simp [ha] at hidle
    · rw [h]
      exact ⟨rfl, .inr ⟨⟨now, rfl⟩, hn, rfl⟩⟩
    all_goals
      rw [h]
      exact ⟨rfl, .inl ha⟩
  · obtain ⟨⟨harmed, -, -, hbuffer, -⟩, -⟩ := (transmitter_eq_iff _ _).mp
      (bodyOf_transmitter (fun packet h => harm ⟨packet, h⟩) (fun now h => htick ⟨now, h⟩) s)
    exact ⟨hbuffer, .inl (harmed.trans ha)⟩

/-- While armed ARM never answers OK: it is rejected, or it faults (R181, R193). -/
theorem exec_arm_of_armed {s t : State} {packet : Word} (ha : s.txArmed = true) (h : exec (.arm packet) s = .next t) :
    t.response ≠ some ⟨.ok, 0⟩ := by
  obtain rfl | ⟨-, c, rfl⟩ | ⟨-, rfl | ⟨-, rfl⟩⟩ := exec_cases h
  · rw [bodyOf, armBody_of_armed ha]
    nofun
  all_goals nofun

/-- Settles O41: the bodies and the fault answers keep TX_BUFFER and, but for the completing TICK, TX_ARMED; the ARM
that passes the checks is O32's. -/
theorem onlyTheCompletingTickDisarms : Obligations.OnlyTheCompletingTickDisarms := by
  intro i s t ha h
  have hkeep : t.txBuffer = s.txBuffer ∧
      (t.txArmed = true ∨ (∃ now, i = .tick now) ∧ s.txRemaining = 0 ∧ t.response = some ⟨.ok, 9⟩) := by
    obtain rfl | ⟨-, c, rfl⟩ | ⟨-, rfl | ⟨-, rfl⟩⟩ := exec_cases h
    · exact bodyOf_of_armed ha i
    all_goals exact ⟨rfl, .inl ha⟩
  obtain ⟨hbuffer, harmed⟩ := hkeep
  refine ⟨hbuffer, fun hoff => harmed.resolve_left (by simp [hoff]), ?_⟩
  rintro packet rfl
  refine ⟨exec_arm_of_armed ha h, fun hf hv hr => ?_⟩
  obtain ⟨-, hrejected⟩ := armTakesAPacketOnlyWhenNotArmed packet s hf hv hr
  exact Host.Outcome.next.inj (h.symm.trans (hrejected ha))

-- ======== the end of a phase ========

/-- What TICK answers at the end of a phase: a gap ends with the mark of the next bit, any other phase with a gap (R185,
R186). -/
def phaseResponse (s : State) : Response := if s.txInGap then markResponse (nextBit s) else gapResponse

/-- The state after the TICK at the end of a phase: gap entry or mark entry in one update (R185, R186). -/
def phaseEnd (now : Word) (s : State) : State :=
  { s with
    txInGap := !s.txInGap
    txLastTime := now
    carrierEn := s.txInGap
    txRemaining := if s.txInGap then s.txRemaining - 1 else s.txRemaining
    response := some (phaseResponse s) }

/-- With bits left a TICK past the end of the phase enters the next one (steps 4 and 5 of R182). -/
theorem tickBody_of_past {now : Word} {s : State} (ha : s.txArmed = true) (hn : s.txRemaining ≠ 0)
    (hm : midPhase now s = false) : tickBody now s = phaseEnd now s := by
  cases hg : s.txInGap with
  | true =>
    rw [tickBody_of_gap_past ha hn hm hg]
    simp only [phaseEnd, phaseResponse, hg, enterMark, answerTick, tickData_markCommand]
    rfl
  | false =>
    rw [tickBody_of_mark_past ha hn hm hg]
    simp only [phaseEnd, phaseResponse, hg]
    rfl

/-- A phase that ends leaves one bit fewer exactly where it was a gap (R186). -/
theorem phaseEnd_txRemaining {s : State} (hn : s.txRemaining ≠ 0) (now : Word) :
    (phaseEnd now s).txRemaining.toNat + (if s.txInGap then 1 else 0) = s.txRemaining.toNat := by
  cases hg : s.txInGap <;> simp only [phaseEnd, hg, if_true, Bool.false_eq_true, if_false]
  · rfl
  · bv_omega

-- ======== the responses to a sequence of TICKs ========

section
variable {s : State} {now : Word}

/-- A sequence that begins with a TICK goes on from the state that TICK's body leaves. -/
theorem runInstrs_tick_cons (hf : s.faulted = false) (rest : List Instr) :
    runInstrs (.tick now :: rest) s = runInstrs rest (tickBody now s) :=
  runInstrs_cons (exec_tick_of_unfaulted hf now) rest

/-- The responses to a sequence that begins with a TICK are that TICK's and then the others (R11). -/
theorem responsesOf_tick_cons (hf : s.faulted = false) {r : Response} (hr : (tickBody now s).response = some r)
    (rest : List Instr) :
    responsesOf (.tick now :: rest) s = r :: responsesOf rest (tickBody now s) :=
  responsesOf_cons (exec_tick_of_unfaulted hf now) hr rest

end

-- ======== what is left of an armed cycle ========

/-- A cycle of `n` bits answers twice for each bit and once at the end (R192). -/
theorem cycleResponses_length (buffer : Word) (n : Nat) : (cycleResponses buffer n).length = 2 * n + 1 := by
  induction n with
  | zero => rfl
  | succ n ih =>
    rw [cycleResponses, List.length_cons, List.length_cons, ih]
    omega

/-- No mark is the completing OFF (R90). -/
theorem markResponse_ne_done (bit : Bool) : markResponse bit ≠ doneResponse := by
  cases bit <;> decide

/-- A cycle answers OFF with done = 1 once (R191). -/
theorem cycleResponses_count_done (buffer : Word) (n : Nat) :
    (cycleResponses buffer n).count doneResponse = 1 := by
  induction n with
  | zero => rfl
  | succ n ih =>
    rw [cycleResponses, List.count_cons_of_ne (by decide), List.count_cons_of_ne (markResponse_ne_done _), ih]

/-- What TICK has still to answer in the cycle, HOLDs left out: nothing when not armed; within a gap the GAP itself
has been answered (R192). -/
def cycleLeft (s : State) : List Response :=
  if s.txArmed then
    if s.txInGap ∧ s.txRemaining ≠ 0 then (cycleResponses s.txBuffer s.txRemaining.toNat).tail
    else cycleResponses s.txBuffer s.txRemaining.toNat
  else []

section
variable {s : State}

/-- When not armed nothing is left of the cycle. -/
theorem cycleLeft_of_idle (ha : s.txArmed = false) : cycleLeft s = [] := by
  simp [cycleLeft, ha]

/-- With no bits left only the completing OFF is (R187). -/
theorem cycleLeft_of_done (ha : s.txArmed = true) (hn : s.txRemaining = 0) : cycleLeft s = [doneResponse] := by
  simp [cycleLeft, ha, hn, cycleResponses]

/-- Before a gap the whole cycle of the bits left is. -/
theorem cycleLeft_of_not_inGap (ha : s.txArmed = true) (hg : s.txInGap = false) :
    cycleLeft s = cycleResponses s.txBuffer s.txRemaining.toNat := by
  simp [cycleLeft, ha, hg]

/-- Within a gap the mark of the next bit comes first, and then the cycle of the bits below it (R186). -/
theorem cycleLeft_of_inGap (ha : s.txArmed = true) (hg : s.txInGap = true) {n : Nat}
    (hn : s.txRemaining.toNat = n + 1) :
    cycleLeft s = markResponse (s.txBuffer.getLsbD n) :: cycleResponses s.txBuffer n := by
  have hne : s.txRemaining ≠ 0 := fun h0 => by simp [h0] at hn
  rw [cycleLeft, if_pos ha, if_pos ⟨hg, hne⟩, hn, cycleResponses, List.tail_cons]

/-- The end of a phase takes the first response off what is left of the cycle. -/
theorem cycleLeft_phaseEnd (ha : s.txArmed = true) (hn : s.txRemaining ≠ 0) (now : Word) :
    cycleLeft s = phaseResponse s :: cycleLeft (phaseEnd now s) := by
  obtain ⟨n, hnat⟩ : ∃ n, s.txRemaining.toNat = n + 1 :=
    Nat.exists_eq_succ_of_ne_zero fun h0 => hn (BitVec.eq_of_toNat_eq h0)
  have hcount := phaseEnd_txRemaining hn now
  cases hg : s.txInGap with
  | true =>
    have hleft : (phaseEnd now s).txRemaining.toNat = n := by
      rw [hg, if_pos rfl] at hcount
      omega
    rw [cycleLeft_of_inGap ha hg hnat, phaseResponse, if_pos hg, nextBit, hnat, Nat.add_sub_cancel,
      cycleLeft_of_not_inGap (s := phaseEnd now s) ha (by simp [phaseEnd, hg]), hleft]
    rfl
  | false =>
    have hleft : (phaseEnd now s).txRemaining.toNat = n + 1 := by
      rw [hg, if_neg nofun] at hcount
      omega
    rw [cycleLeft_of_not_inGap ha hg, hnat, phaseResponse, if_neg (by simp [hg]),
      cycleLeft_of_inGap (s := phaseEnd now s) ha (by simp [phaseEnd, hg]) hleft]
    rfl

/-- While armed the completing OFF is left, once. -/
theorem cycleLeft_count_done (ha : s.txArmed = true) : (cycleLeft s).count doneResponse = 1 := by
  by_cases hn : s.txRemaining = 0
  · rw [cycleLeft_of_done ha hn]
    rfl
  cases hg : s.txInGap with
  | false => rw [cycleLeft_of_not_inGap ha hg, cycleResponses_count_done]
  | true =>
    obtain ⟨n, hnat⟩ : ∃ n, s.txRemaining.toNat = n + 1 :=
      Nat.exists_eq_succ_of_ne_zero fun h0 => hn (BitVec.eq_of_toNat_eq h0)
    rw [cycleLeft_of_inGap ha hg hnat]
    rw [List.count_cons_of_ne (markResponse_ne_done _), cycleResponses_count_done]

end

-- ======== the cycle at TICKs of any times ========

/-- From `s` to `t` the responses `emitted`, HOLDs left out, follow the cycle: with what is left of it at `t` they make
what was left of it at `s`, and then come the OFFs of TICKs when not armed, none while still armed; no TICK arms the
block; and each mark counts TX_REMAINING down by one (R186, R188, R192). -/
structure FollowsCycle (s : State) (emitted : List Response) (t : State) : Prop where
  follows : ∃ k, emitted ++ cycleLeft t = cycleLeft s ++ List.replicate k offResponse ∧ (t.txArmed = true → k = 0)
  armedBefore : t.txArmed = true → s.txArmed = true
  counted : t.txRemaining.toNat + (emitted.filter isMark).length = s.txRemaining.toNat

/-- With no TICK nothing is emitted. -/
theorem FollowsCycle.refl (s : State) : FollowsCycle s [] s :=
  ⟨⟨0, by simp, fun _ => rfl⟩, id, rfl⟩

/-- What follows the cycle as far as `t` and on from `t` follows it throughout. -/
theorem FollowsCycle.trans {s t u : State} {first rest : List Response} (h : FollowsCycle s first t)
    (h' : FollowsCycle t rest u) : FollowsCycle s (first ++ rest) u := by
  obtain ⟨k, hfirst, hk⟩ := h.follows
  obtain ⟨l, hrest, hl⟩ := h'.follows
  refine ⟨⟨k + l, ?_, fun ha => by rw [hk (h'.armedBefore ha), hl ha]⟩,
    fun ha => h.armedBefore (h'.armedBefore ha), ?_⟩
  · calc first ++ rest ++ cycleLeft u
        = (first ++ cycleLeft t) ++ List.replicate l offResponse := by
          rw [List.append_assoc, hrest, List.append_assoc]
      _ = cycleLeft s ++ List.replicate (k + l) offResponse := by
          rw [hfirst, List.append_assoc, List.replicate_append_replicate]
  · have hcount := h.counted
    have hcount' := h'.counted
    rw [List.filter_append, List.length_append]
    omega

/-- The end of a phase emits a response that is not HOLD, and a mark exactly where the phase was a gap (R185, R186). -/
theorem phaseResponse_kind (s : State) :
    notHold (phaseResponse s) = true ∧ isMark (phaseResponse s) = s.txInGap := by
  cases hg : s.txInGap with
  | false =>
    rw [phaseResponse, if_neg (by simp [hg])]
    decide
  | true =>
    rw [phaseResponse, if_pos hg]
    cases nextBit s <;> decide

/-- Each TICK follows the cycle (R182). -/
theorem tickBody_followsCycle (now : Word) (s : State) :
    ∃ r, (tickBody now s).response = some r ∧ FollowsCycle s ([r].filter notHold) (tickBody now s) := by
  cases ha : s.txArmed with
  | false =>
    rw [tickBody_of_idle now ha]
    refine ⟨offResponse, rfl, ⟨1, ?_, by simp [ha]⟩, id, rfl⟩
    rw [cycleLeft_of_idle (s := tickIdle s) ha, cycleLeft_of_idle ha]
    rfl
  | true =>
    by_cases hn : s.txRemaining = 0
    · rw [tickBody_of_done now ha hn]
      refine ⟨doneResponse, rfl, ⟨0, ?_, nofun⟩, fun _ => ha, rfl⟩
      rw [cycleLeft_of_idle (s := tickComplete s) rfl, cycleLeft_of_done ha hn]
      rfl
    cases hm : midPhase now s with
    | true =>
      rw [tickBody_of_midPhase ha hn hm]
      exact ⟨holdResponse, rfl, { FollowsCycle.refl s with }⟩
    | false =>
      rw [tickBody_of_past ha hn hm]
      obtain ⟨hshown, hmark⟩ := phaseResponse_kind s
      refine ⟨phaseResponse s, rfl, ⟨0, ?_, fun _ => rfl⟩, fun _ => ha, ?_⟩
      · rw [cycleLeft_phaseEnd ha hn now]
        simp [hshown]
      · rw [← phaseEnd_txRemaining hn now]
        cases hg : s.txInGap <;> simp [hshown, hmark, hg]

/-- TICK's body raises no fault. -/
theorem tickBody_faulted (now : Word) (s : State) : (tickBody now s).faulted = s.faulted := (tickBody_frame now s).2

/-- Any number of TICKs, whatever their times, follow the cycle. -/
theorem ticks_followCycle (times : List Word) {s : State} (hf : s.faulted = false) :
    ∃ t, runInstrs (times.map Instr.tick) s = .next t ∧
      FollowsCycle s ((responsesOf (times.map Instr.tick) s).filter notHold) t := by
  induction times generalizing s with
  | nil => exact ⟨s, rfl, FollowsCycle.refl s⟩
  | cons now rest ih =>
    obtain ⟨r, hr, hfirst⟩ := tickBody_followsCycle now s
    obtain ⟨t, hrun, hrest⟩ := ih ((tickBody_faulted now s).trans hf)
    refine ⟨t, ?_, ?_⟩
    · rw [List.map_cons, runInstrs_tick_cons hf, hrun]
    · rw [List.map_cons, responsesOf_tick_cons hf hr, ← List.singleton_append, List.filter_append]
      exact hfirst.trans hrest

/-- Settles O42: the responses follow the cycle, all of which is left after ARM; while armed the completing OFF is among
what is left, where it stands once. -/
theorem armedCycleEmitsEveryBitOnce : Obligations.ArmedCycleEmitsEveryBitOnce := by
  intro times s hf ha hg hn _ emitted
  obtain ⟨t, hrun, hcycle⟩ := ticks_followCycle times hf
  obtain ⟨k, hfollows, hk⟩ := hcycle.follows
  change emitted ++ cycleLeft t = _ at hfollows
  rw [cycleLeft_of_not_inGap ha hg, hn] at hfollows
  have hcount := hcycle.counted
  rw [hn] at hcount
  have hwhole (harmed : t.txArmed = true) :
      emitted ++ cycleLeft t = cycleResponses s.txBuffer s.packetBits.toNat := by
    rw [hfollows, hk harmed, List.replicate_zero, List.append_nil]
  refine ⟨?_, t, hrun, hcount, fun harmed => ⟨⟨_, hwhole harmed⟩, ?_⟩⟩
  · cases harmed : t.txArmed with
    | true => exact .inl ⟨_, hwhole harmed⟩
    | false => exact .inr ⟨k, by rw [← hfollows, cycleLeft_of_idle harmed, List.append_nil]⟩
  · have honce := congrArg (List.count doneResponse) (hwhole harmed)
    rw [List.count_append, cycleLeft_count_done harmed, cycleResponses_count_done] at honce
    exact List.count_eq_zero.mp (by omega)

-- ======== TICKs paced at least a phase apart ========

/-- The pace of TICKs is judged by the durations of the configuration alone (R183). -/
theorem ticksPaced_phaseEnd (now : Word) (s : State) (times : List Word) :
    ticksPaced (phaseEnd now s) times ↔ ticksPaced s times := by
  induction times with
  | nil => rfl
  | cons a rest ih =>
    cases rest with
    | nil => rfl
    | cons b rest => simp only [ticksPaced, ih]; rfl

/-- No phase lasts longer than the longest of the three durations (R183). -/
theorem phaseDuration_le {s : State} {d : Word} (hgap : s.cfgGap ≤ d) (hshort : s.cfgShort ≤ d)
    (hlong : s.cfgLong ≤ d) : phaseDuration s ≤ d := by
  unfold phaseDuration
  split_ifs
  · exact hgap
  · exact BitVec.le_def.mpr (Nat.zero_le _)
  · exact hlong
  · exact hshort

/-- A TICK paced after the one that began a phase is past that phase (R182). -/
theorem midPhase_of_paced {s : State} {a b : Word} {rest : List Word} (h : ticksPaced s (a :: b :: rest))
    (hlast : s.txLastTime = a) : midPhase b s = false := by
  obtain ⟨hgap, hshort, hlong, -⟩ := h
  rw [midPhase_eq_false_iff, hlast]
  exact phaseDuration_le hgap hshort hlong

/-- The pace of a list of TICKs is kept from its second one on. -/
theorem ticksPaced_of_cons {s : State} {a : Word} {rest : List Word} (h : ticksPaced s (a :: rest)) :
    ticksPaced s rest := by
  cases rest with
  | nil => trivial
  | cons b rest =>
    obtain ⟨-, -, -, hrest⟩ := h
    exact hrest

/-- As many paced TICKs as responses are left of the cycle give just those responses, and complete it (R192, R253). -/
theorem pacedTicks_complete (times : List Word) {s : State} (hf : s.faulted = false) (ha : s.txArmed = true)
    (hpast : ∀ now ∈ times.head?, midPhase now s = false) (hpaced : ticksPaced s times)
    (hlen : times.length = (cycleLeft s).length) :
    responsesOf (times.map Instr.tick) s = cycleLeft s ∧
      ∃ t, runInstrs (times.map Instr.tick) s = .next t ∧ t.txArmed = false ∧ t.carrierEn = false ∧
        t.txRemaining = 0 := by
  induction times generalizing s with
  | nil =>
    have honce := cycleLeft_count_done ha
    rw [List.eq_nil_of_length_eq_zero hlen.symm] at honce
    simp at honce
  | cons now rest ih =>
    rw [List.map_cons, runInstrs_tick_cons hf]
    by_cases hn : s.txRemaining = 0
    · have hbody := tickBody_of_done now ha hn
      rw [responsesOf_tick_cons hf (congrArg State.response hbody), cycleLeft_of_done ha hn, hbody]
      obtain rfl : rest = [] := by simpa [cycleLeft_of_done ha hn] using hlen
      exact ⟨rfl, tickComplete s, rfl, rfl, rfl, hn⟩
    · have hbody := tickBody_of_past ha hn (hpast now (by simp))
      have hpaced' : ticksPaced (phaseEnd now s) (now :: rest) := (ticksPaced_phaseEnd now s _).mpr hpaced
      rw [cycleLeft_phaseEnd ha hn now, List.length_cons, List.length_cons] at hlen
      rw [responsesOf_tick_cons hf (congrArg State.response hbody), cycleLeft_phaseEnd ha hn now, hbody]
      obtain ⟨hresponses, hdone⟩ := ih (s := phaseEnd now s) hf ha
        (fun next hnext => by
          obtain ⟨later, rfl⟩ : ∃ later, rest = next :: later := List.head?_eq_some_iff.mp hnext
          exact midPhase_of_paced hpaced' rfl)
        (ticksPaced_of_cons hpaced') (Nat.succ.inj hlen)
      exact ⟨congrArg _ hresponses, hdone⟩

/-- Settles O43: the first TICK finds the pre-phase over, and the whole cycle of `2 * packet_bits + 1` responses is left. -/
theorem pacedTicksCompleteTheCycle : Obligations.PacedTicksCompleteTheCycle := by
  intro times s hf ha hg hn _ hpaced hlen
  have hleft : cycleLeft s = cycleResponses s.txBuffer s.packetBits.toNat := by
    rw [cycleLeft_of_not_inGap ha hg, hn]
  rw [← hleft]
  exact pacedTicks_complete times hf ha (fun now _ => midPhase_of_prePhase hg hn now) hpaced
    (by rw [hlen, hleft, cycleResponses_length])

-- ======== TICKs evenly spaced ========

/-- Every word is the timestamp of the moment it counts. -/
theorem timestamp_toNat (w : Word) : timestamp w.toNat = w := by
  rw [timestamp, BitVec.ofNat_toNat, BitVec.setWidth_eq]

/-- Evenly spaced TICKs from a moment of the time base: the first one and then those from a period later (R195). -/
theorem evenTicks_succ (moment : Nat) (period : Word) (n : Nat) :
    evenTicks (timestamp moment) period (n + 1) =
      .tick (timestamp moment) :: evenTicks (timestamp (moment + period.toNat)) period n := by
  rw [evenTicks, timestamp_add, timestamp_toNat]

/-- A phase lasts at least one TICK (R195). -/
theorem one_le_phaseTicks (dur period : Word) : 1 ≤ phaseTicks dur period := le_max_left _ _

/-- A phase has lasted its duration after `phaseTicks` periods, and not after fewer of them, at least one (R195). -/
theorem lt_phaseTicks_iff (dur : Word) {period : Word} (hp : period ≠ 0) {j : Nat} (hj : 1 ≤ j) :
    j < phaseTicks dur period ↔ j * period.toNat < dur.toNat := by
  have hpos : 0 < period.toNat := Nat.pos_of_ne_zero fun h0 => hp (BitVec.eq_of_toNat_eq h0)
  have hceil : j + 1 ≤ (dur.toNat + (period.toNat - 1)) / period.toNat ↔ j * period.toNat < dur.toNat := by
    rw [Nat.le_div_iff_mul_le hpos, Nat.succ_mul]
    omega
  rw [phaseTicks, lt_max_iff, ← hceil]
  omega

/-- An armed block that is not faulted, in a phase that began at `moment`, whose phases in whole TICKs end before the
timestamp's wrap (R195, R262). -/
structure PhaseSince (period : Word) (moment : Nat) (s : State) : Prop where
  unfaulted : s.faulted = false
  armed : s.txArmed = true
  began : s.txLastTime = timestamp moment
  gapFits : phaseTicks s.cfgGap period * period.toNat < 2 ^ 32
  shortFits : phaseTicks s.cfgShort period * period.toNat < 2 ^ 32
  longFits : phaseTicks s.cfgLong period * period.toNat < 2 ^ 32

namespace PhaseSince

variable {period : Word} {moment : Nat} {s : State}

/-- HOLD does not end the phase. -/
theorem afterHold (h : PhaseSince period moment s) : PhaseSince period moment (answerTick false .hold s) := { h with }

/-- The end of a phase begins the next one. -/
theorem afterPhaseEnd (h : PhaseSince period moment s) (later : Nat) :
    PhaseSince period later (phaseEnd (timestamp later) s) := { h with began := rfl }

/-- The symbol duration of either bit ends before the wrap. -/
theorem symbolFits (h : PhaseSince period moment s) (bit : Bool) :
    phaseTicks (symbolDuration s bit) period * period.toNat < 2 ^ 32 := by
  cases bit
  · exact h.shortFits
  · exact h.longFits

/-- Up to the end of the phase a TICK a whole number of periods after its beginning is within it exactly when that
number is below `phaseTicks` (R182, R195). -/
theorem withinPhase_iff (h : PhaseSince period moment s) (hp : period ≠ 0) {dur : Word} (hdur : phaseDuration s = dur)
    (hfits : phaseTicks dur period * period.toNat < 2 ^ 32) {j : Nat} (hj : 1 ≤ j)
    (hle : j ≤ phaseTicks dur period) :
    midPhase (timestamp (moment + j * period.toNat)) s = true ↔ j < phaseTicks dur period := by
  have hwrap : j * period.toNat < 2 ^ 32 := (Nat.mul_le_mul_right _ hle).trans_lt hfits
  rw [lt_phaseTicks_iff dur hp hj, midPhase, h.began, elapsed_timestamp_add, hdur, decide_eq_true_iff, BitVec.lt_def,
    timestamp_toNat_of_lt hwrap]

/-- With `k` HOLDs left of a phase evenly spaced TICKs answer those and then the phase's end (R183, R195). -/
theorem responses_of_holds (h : PhaseSince period moment s) (hp : period ≠ 0) (hn : s.txRemaining ≠ 0) {dur : Word}
    (hdur : phaseDuration s = dur) (hfits : phaseTicks dur period * period.toNat < 2 ^ 32) (m k : Nat) {j : Nat}
    (hj : 1 ≤ j) (hsum : j + k = phaseTicks dur period) :
    ∃ later, responsesOf (evenTicks (timestamp (moment + j * period.toNat)) period (k + 1 + m)) s =
      List.replicate k holdResponse ++ phaseResponse s ::
        responsesOf (evenTicks (timestamp (later + period.toNat)) period m) (phaseEnd (timestamp later) s) := by
  have hmid := h.withinPhase_iff hp hdur hfits hj (by omega)
  induction k generalizing s j with
  | zero =>
    have hbody := tickBody_of_past h.armed hn (by rw [← Bool.not_eq_true, hmid]; omega)
    refine ⟨moment + j * period.toNat, ?_⟩
    rw [Nat.add_comm (0 + 1), ← Nat.add_assoc, Nat.add_zero, evenTicks_succ,
      responsesOf_tick_cons h.unfaulted (congrArg State.response hbody), hbody]
    rfl
  | succ k ih =>
    have hbody := tickBody_of_midPhase h.armed hn (hmid.mpr (by omega))
    obtain ⟨later, hrest⟩ := ih h.afterHold hn hdur (j := j + 1) (by omega) (by omega)
      (h.afterHold.withinPhase_iff hp hdur hfits (by omega) (by omega))
    refine ⟨later, ?_⟩
    rw [show k + 1 + 1 + m = (k + 1 + m) + 1 by omega, evenTicks_succ,
      responsesOf_tick_cons h.unfaulted (congrArg State.response hbody), hbody, Nat.add_assoc, ← Nat.succ_mul, hrest]
    rfl

/-- Evenly spaced TICKs after the one that began a phase answer HOLD until `phaseTicks` have come, and then the phase's
end (R183, R195). -/
theorem responses_of_phase (h : PhaseSince period moment s) (hp : period ≠ 0) (hn : s.txRemaining ≠ 0) {dur : Word}
    (hdur : phaseDuration s = dur) (hfits : phaseTicks dur period * period.toNat < 2 ^ 32) (m : Nat) :
    ∃ later, responsesOf (evenTicks (timestamp (moment + period.toNat)) period (phaseTicks dur period - 1 + 1 + m)) s =
      List.replicate (phaseTicks dur period - 1) holdResponse ++ phaseResponse s ::
        responsesOf (evenTicks (timestamp (later + period.toNat)) period m) (phaseEnd (timestamp later) s) := by
  have hone := one_le_phaseTicks dur period
  have hholds := h.responses_of_holds hp hn hdur hfits m (phaseTicks dur period - 1) (j := 1) le_rfl (by omega)
  rwa [Nat.one_mul] at hholds

end PhaseSince

/-- The waveform after the mark of bit `n`: OFF at once for bit 0, else the rest of the mark, the GAP, and the waveform
of the bits below (R187, R195). -/
def evenAfterMark (s : State) (period : Word) (n : Nat) : List Response :=
  if n = 0 then [doneResponse]
  else
    List.replicate (phaseTicks (symbolDuration s (s.txBuffer.getLsbD n)) period - 1) holdResponse ++
      gapResponse :: evenCycle s period n

/-- The waveform of one more bit: the rest of the gap, the bit's mark, and what comes after it (R195). -/
theorem evenCycle_succ (s : State) (period : Word) (n : Nat) :
    evenCycle s period (n + 1) =
      List.replicate (phaseTicks s.cfgGap period - 1) holdResponse ++
        markResponse (s.txBuffer.getLsbD n) :: evenAfterMark s period n := rfl

/-- The waveform depends on the configuration and on TX_BUFFER, which the end of a phase keeps (R193, R195). -/
theorem evenCycle_phaseEnd (now : Word) (s : State) (period : Word) (n : Nat) :
    evenCycle (phaseEnd now s) period n = evenCycle s period n := by
  induction n with
  | zero => rfl
  | succ n ih =>
    rw [evenCycle, ih]
    rfl

/-- What comes after a mark depends on the same. -/
theorem evenAfterMark_phaseEnd (now : Word) (s : State) (period : Word) (n : Nat) :
    evenAfterMark (phaseEnd now s) period n = evenAfterMark s period n := by
  rw [evenAfterMark, evenCycle_phaseEnd]
  rfl

/-- The number of TICKs of a waveform that begins with `k` HOLDs and one more response. -/
theorem length_holds_append_cons (k : Nat) (r : Response) (rest : List Response) :
    (List.replicate k holdResponse ++ r :: rest).length = k + 1 + rest.length := by
  rw [List.length_append, List.length_replicate, List.length_cons]
  omega

/-- Evenly spaced TICKs after the one that began a gap with `n` bits left give the waveform of those bits (R195). -/
def GivesWaveform (period : Word) (n : Nat) : Prop :=
  ∀ (moment : Nat) (s : State), PhaseSince period moment s → s.txInGap = true → s.txRemaining.toNat = n →
    n ≤ s.packetBits.toNat →
    responsesOf (evenTicks (timestamp (moment + period.toNat)) period (evenCycle s period n).length) s =
      evenCycle s period n

/-- Evenly spaced TICKs after the mark of bit `n`, given the waveform of the bits below: the completing OFF comes at the
next TICK, and a GAP at the end of the mark (R187, R195). -/
theorem responses_after_mark {period : Word} (hp : period ≠ 0) {n : Nat} (hbelow : GivesWaveform period n)
    {moment : Nat} {s : State} (h : PhaseSince period moment s) (hg : s.txInGap = false)
    (hn : s.txRemaining.toNat = n) (hlt : n < s.packetBits.toNat) :
    responsesOf (evenTicks (timestamp (moment + period.toNat)) period (evenAfterMark s period n).length) s =
      evenAfterMark s period n := by
  by_cases h0 : n = 0
  · have hbody := tickBody_of_done (timestamp (moment + period.toNat)) h.armed
      (BitVec.eq_of_toNat_eq (hn.trans h0))
    rw [evenAfterMark, if_pos h0]
    exact responsesOf_tick_cons h.unfaulted (congrArg State.response hbody) []
  · have hne : s.txRemaining ≠ 0 := fun hzero => h0 (hn.symm.trans (congrArg BitVec.toNat hzero))
    have hpre : s.txRemaining ≠ s.packetBits := fun he => hlt.ne (hn.symm.trans (congrArg BitVec.toNat he))
    have hdur := phaseDuration_of_mark hg hpre
    rw [hn] at hdur
    obtain ⟨began, hmark⟩ := h.responses_of_phase hp hne hdur (h.symbolFits _) (evenCycle s period n).length
    have hgap := hbelow began (phaseEnd (timestamp began) s) (h.afterPhaseEnd began) (by simp [phaseEnd, hg])
      (by simpa [phaseEnd, hg] using hn) hlt.le
    rw [evenCycle_phaseEnd] at hgap
    rw [evenAfterMark, if_neg h0, length_holds_append_cons, hmark, hgap, phaseResponse, if_neg (by simp [hg])]

/-- The waveform of any number of bits, by induction: the gap ends with the mark of the highest bit (R195). -/
theorem evenTicks_givesWaveform {period : Word} (hp : period ≠ 0) (n : Nat) : GivesWaveform period n := by
  induction n with
  | zero => exact fun _ _ _ _ _ _ => rfl
  | succ n ih =>
    intro moment s h hg hn hle
    have hne : s.txRemaining ≠ 0 := fun h0 => by simp [h0] at hn
    obtain ⟨began, hgap⟩ := h.responses_of_phase hp hne (phaseDuration_of_gap hg) h.gapFits
      (evenAfterMark s period n).length
    have hleft : (phaseEnd (timestamp began) s).txRemaining.toNat = n := by
      have hcount := phaseEnd_txRemaining hne (timestamp began)
      rw [if_pos hg, hn] at hcount
      exact Nat.succ.inj hcount
    have hafter := responses_after_mark hp ih (h.afterPhaseEnd began) (by simp [phaseEnd, hg]) hleft hle
    rw [evenAfterMark_phaseEnd] at hafter
    rw [evenCycle_succ, length_holds_append_cons, hgap, hafter, phaseResponse, if_pos hg, nextBit, hn,
      Nat.add_sub_cancel]

/-- Settles O44: the first TICK ends the pre-phase, and begins the gap before the highest bit. -/
theorem evenTicksGiveTheWaveform : Obligations.EvenTicksGiveTheWaveform := by
  intro first period s hf ha hg hn hwidth hp hgap hshort hlong
  have hne : s.txRemaining ≠ 0 := fun h0 => by simp [← hn, h0] at hwidth
  have hbody := tickBody_of_past ha hne (midPhase_of_prePhase hg hn first)
  have hphase : PhaseSince period first.toNat (phaseEnd first s) :=
    { unfaulted := hf, armed := ha, began := (timestamp_toNat first).symm
      gapFits := hgap, shortFits := hshort, longFits := hlong }
  have hwave := evenTicks_givesWaveform hp s.packetBits.toNat first.toNat (phaseEnd first s) hphase
    (by simp [phaseEnd, hg]) (by simp [phaseEnd, hg, hn]) le_rfl
  rw [evenCycle_phaseEnd, timestamp_add, timestamp_toNat, timestamp_toNat] at hwave
  rw [Nat.add_comm 1, evenTicks, responsesOf_tick_cons hf (congrArg State.response hbody), hbody, hwave]
  exact congrArg (· :: _) (if_neg (by simp [hg]))

end Sys2Proof.Machine

/-! PROOFS. The statement about the control operations (44_control.md): NOP in a block that is not faulted and in a
faulted one (R210, R223). -/

namespace Sys2Proof.Machine

/-- NOP passes every check, so it answers OK in a block that is not faulted (R210). -/
theorem exec_nop_of_unfaulted {s : State} (hf : s.faulted = false) : exec .nop s = .next (respond .ok 0 s) :=
  exec_of_pass rfl hf rfl

/-- NOP is no exception of R223: a faulted block answers it with its fault code. -/
theorem exec_nop_of_faulted {s : State} (hf : s.faulted = true) : exec .nop s = .next (answerFaulted s) :=
  exec_of_faulted rfl rfl hf

/-- Settles O8: the fault flag decides between the two answers. -/
theorem nopAnswersAndChangesNothing : Obligations.NopAnswersAndChangesNothing :=
  fun _ => ⟨exec_nop_of_unfaulted, exec_nop_of_faulted⟩

end Sys2Proof.Machine

/-! PROOFS. The statements about the exceptions (60_exceptions.md): which fault an operation raises (R226 to R228, in
the order of R229) and what it leaves (R222), what a faulted block answers (R223) until reset (R224, R251), and the
rejections that are no faults (R230). -/

namespace Sys2Proof.Machine

-- ======== the order of the checks ========

section
variable (i : Instr) {s : State}

/-- Check 3 of R229 comes before checks 4 and 5, whatever they would find (R226). -/
theorem faultOf_of_unconfigured (hi : needsConfig i = true) (hv : s.configValid = false) :
    faultOf i s = some .notConfigured := by
  simp [faultOf, hi, hv]

/-- Check 4 of R229 comes before check 5 (R227). -/
theorem faultOf_of_halfDuplex (hv : s.configValid = true) (hd : breaksHalfDuplex i s = true) :
    faultOf i s = some .halfDuplexViolation := by
  simp [faultOf, hv, hd]

/-- Check 5 of R229 is the last one (R228). -/
theorem faultOf_of_rxSequence (hv : s.configValid = true) (hd : breaksHalfDuplex i s = false)
    (hr : breaksRxSequence i s = true) : faultOf i s = some .rxSequenceError := by
  simp [faultOf, hv, hd, hr]

/-- The operations that need no configuration pass checks 3 to 5 of R229 in every state. -/
theorem faultOf_of_not_needsConfig (hi : needsConfig i = false) : faultOf i s = none := by
  cases i with
  | arm | classify | rxStart | rxCheck | rxPulse => cases hi
  | nop | cfgWrite | cfgCommit | tick | query => rfl

end

/-- In a block that is not faulted a well-formed operation raises the fault that the checks decide (R222, R229). -/
theorem exec_of_fault {i : Instr} {s : State} {c : FaultCause} (hw : i.wellFormed = true) (hf : s.faulted = false)
    (hc : faultOf i s = some c) : exec i s = .next (raiseFault c s) := by
  rw [exec_eq, if_pos hw, afterChecks_of_fault i s _ c hf hc]

/-- Settles O49: both operations are stopped at check 4 of R229. -/
theorem halfDuplexViolationsFault : Obligations.HalfDuplexViolationsFault := by
  intro a b s hf hv
  refine ⟨fun ha => ?_, fun hr => ?_⟩
  · exact exec_of_fault rfl hf (faultOf_of_halfDuplex (.rxStart a b) hv ha)
  · exact exec_of_fault rfl hf (faultOf_of_halfDuplex (.arm a) hv (decide_eq_true hr))

/-- Settles O48: the first five are stopped at check 3 of R229; the others pass the checks, and no body faults. -/
theorem unconfiguredOperationsFault : Obligations.UnconfiguredOperationsFault := by
  refine fun s hf hv => ⟨fun i hi => ?_, fun i t hw hi h => ?_⟩
  · obtain ⟨hw, hneeds⟩ : i.wellFormed = true ∧ needsConfig i = true := by
      obtain ⟨p, rfl⟩ | ⟨d, rfl⟩ | ⟨a, b, rfl⟩ | ⟨a, rfl⟩ | ⟨a, b, rfl⟩ := hi <;> exact ⟨rfl, rfl⟩
    exact exec_of_fault hw hf (faultOf_of_unconfigured i hneeds hv)
  · have hneeds : needsConfig i = false := by
      obtain rfl | ⟨idx, v, rfl⟩ | rfl | ⟨a, rfl⟩ | ⟨a, rfl⟩ := hi <;> rfl
    obtain rfl : bodyOf i s = t :=
      Host.Outcome.next.inj ((exec_of_pass hw hf (faultOf_of_not_needsConfig i hneeds)).symm.trans h)
    exact (bodyOf_faulted i s).trans hf

-- ======== a faulted block ========

/-- Serving a transaction that decodes to an operation executes it (R87). -/
theorem serveTransaction_of_legal {tr : Transaction} {i : Instr} (hd : decode tr = .legal i) (s : State) :
    serveTransaction tr s = exec i s := by
  simp only [serveTransaction, hd]

/-- A faulted block answers an illegal command word with its fault code alone (R223). -/
theorem illegalCommand_of_faulted {s : State} (hf : s.faulted = true) : illegalCommand s = answerFaulted s :=
  if_pos hf

/-- A faulted block answers TICK with the carrier off (R223). -/
theorem exec_tick_of_faulted {s : State} (hf : s.faulted = true) (now : Word) :
    exec (.tick now) s = .next (answerFaultedTick s) :=
  congrArg Host.Outcome.next (afterChecks_of_faulted (.tick now) s _ hf)

/-- A faulted block answers every other operation with its fault code alone, an unmapped index included (R223). -/
theorem exec_other_of_faulted {i : Instr} {s : State} (hf : s.faulted = true) (hquery : ∀ a, i ≠ .query a)
    (htick : ∀ now, i ≠ .tick now) : exec i s = .next (answerFaulted s) := by
  have hi : faultedAnswer i s = some (answerFaulted s) := by
    cases i with
    | query a => exact absurd rfl (hquery a)
    | tick now => exact absurd rfl (htick now)
    | nop | cfgWrite | cfgCommit | arm | classify | rxStart | rxCheck | rxPulse => rfl
  by_cases hw : i.wellFormed = true
  · exact exec_of_faulted hw hi hf
  · rw [exec_eq, if_neg hw, illegalCommand_of_faulted hf]

/-- Settles O51: QUERY runs, TICK and the other operations have the answers of R223, and so has an illegal word. -/
theorem faultedBlockAnswers : Obligations.FaultedBlockAnswers := by
  refine fun tr s hf => ⟨fun a hd => ?_, fun now hd => ?_, fun hquery htick => ?_⟩
  · rw [serveTransaction_of_legal hd, exec_query]
    rfl
  · rw [serveTransaction_of_legal hd, exec_tick_of_faulted hf]
    rfl
  · change serveTransaction tr s = .next (answerFaulted s)
    cases hd : decode tr with
    | legal i =>
      rw [serveTransaction_of_legal hd]
      exact exec_other_of_faulted hf (fun a hi => hquery a (hi ▸ hd)) (fun now hi => htick now (hi ▸ hd))
    | illegal why =>
      rw [serveTransaction_of_not_legal (by simp [hd]), illegalCommand_of_faulted hf]

/-- An operation of a faulted block writes nothing but CARRIER_EN and a response OK or FAULT (R223). -/
theorem exec_frame_of_faulted {i : Instr} {s t : State} (hf : s.faulted = true) (h : exec i s = .next t) :
    ∃ carrier st data, t = { s with carrierEn := carrier, response := some ⟨st, data⟩ } ∧
      (st = .ok ∨ st = .fault) := by
  by_cases hquery : ∃ a, i = .query a
  · obtain ⟨a, rfl⟩ := hquery
    obtain rfl := Host.Outcome.next.inj ((exec_query a s).symm.trans h)
    exact ⟨_, _, _, rfl, .inl rfl⟩
  by_cases htick : ∃ now, i = .tick now
  · obtain ⟨now, rfl⟩ := htick
    obtain rfl := Host.Outcome.next.inj ((exec_tick_of_faulted hf now).symm.trans h)
    exact ⟨_, _, _, rfl, .inr rfl⟩
  · have hother := exec_other_of_faulted hf (fun a hi => hquery ⟨a, hi⟩) (fun now hi => htick ⟨now, hi⟩)
    obtain rfl := Host.Outcome.next.inj (hother.symm.trans h)
    exact ⟨_, _, _, rfl, .inr rfl⟩

/-- A transaction served by a faulted block writes nothing but CARRIER_EN and the response (R223). -/
theorem serveTransaction_frame_of_faulted {tr : Transaction} {s t : State} (hf : s.faulted = true)
    (h : serveTransaction tr s = .next t) : ∃ carrier r, t = { s with carrierEn := carrier, response := r } := by
  cases hd : decode tr with
  | legal i =>
    rw [serveTransaction_of_legal hd] at h
    obtain ⟨carrier, st, data, ht, -⟩ := exec_frame_of_faulted hf h
    exact ⟨carrier, _, ht⟩
  | illegal why =>
    rw [serveTransaction_of_not_legal (by simp [hd]), illegalCommand_of_faulted hf] at h
    exact ⟨_, _, (Host.Outcome.next.inj h).symm⟩

/-- The fault of `s` still stands in `t`: neither its registers, nor the transmission it abandoned, nor the place of the
receive loop has moved (R224, R251). -/
def FaultStands (s t : State) : Prop :=
  t.faulted = true ∧ t.faultCode = s.faultCode ∧ t.txArmed = s.txArmed ∧ t.txInGap = s.txInGap ∧
    t.txRemaining = s.txRemaining ∧ t.txLastTime = s.txLastTime ∧ t.rxState = s.rxState

/-- Serving an input that is not reset, a faulted block keeps the fault and what it abandoned (R223, R224). -/
theorem serveInput_of_faulted {agent : Agent} {x : Input} {s t : State} (hf : s.faulted = true)
    (h : serveInput agent x s = .next t) : FaultStands s t ∨ x = .reset ∧ t = applyReset s := by
  cases x with
  | reset => exact .inr ⟨rfl, (Host.Outcome.next.inj h).symm⟩
  | transaction tr =>
    obtain ⟨carrier, r, rfl⟩ := serveTransaction_frame_of_faulted (s := { s with issuer := some agent }) hf h
    exact .inl ⟨hf, rfl, rfl, rfl, rfl, rfl, rfl⟩

/-- Settles O52: taking an input writes no register, and serving it resets the block or keeps what the fault left. -/
theorem onlyResetLeavesTheFaultedState : Obligations.OnlyResetLeavesTheFaultedState := by
  intro s t hf hs
  unfold step at hs
  obtain ⟨-, -, htake⟩ | ⟨x, rest, n, hq, htake⟩ | ⟨y, rest, n, hq, htake⟩ := takeInput_cases s <;>
    rw [htake] at hs
  · obtain rfl := Host.Outcome.next.inj hs
    exact .inl ⟨hf, rfl, rfl, rfl, rfl, rfl, rfl⟩
  · obtain hstands | ⟨rfl, rfl⟩ := serveInput_of_faulted (s := { s with hostQueue := rest, arbiter := n }) hf hs
    · exact .inl hstands
    · exact .inr ⟨.inl hq, rfl⟩
  · obtain hstands | ⟨rfl, rfl⟩ := serveInput_of_faulted (s := { s with tickQueue := rest, arbiter := n }) hf hs
    · exact .inl hstands
    · exact .inr ⟨.inr hq, rfl⟩

-- ======== what an operation does, and what decides it ========

/-- In a block that is not faulted an illegal command word raises ILLEGAL_COMMAND (R225). -/
theorem illegalCommand_of_unfaulted {s : State} (hf : s.faulted = false) :
    illegalCommand s = raiseFault .illegalCommand s := if_neg (by simp [hf])

/-- Everything an operation can do, as exec_cases has it, with what decides it: in a block that is not faulted its body
runs past every check, or it faults; a faulted block answers OK or FAULT (R222, R223, R229). -/
theorem exec_outcome {i : Instr} {s t : State} (h : exec i s = .next t) :
    (s.faulted = false ∧ i.wellFormed = true ∧ faultOf i s = none ∧ t = bodyOf i s) ∨
    (s.faulted = false ∧ ∃ c, t = raiseFault c s) ∨
    (s.faulted = true ∧ ∃ carrier st data,
      t = { s with carrierEn := carrier, response := some ⟨st, data⟩ } ∧ (st = .ok ∨ st = .fault)) := by
  obtain hf | hf := Bool.eq_false_or_eq_true s.faulted
  · exact .inr (.inr ⟨hf, exec_frame_of_faulted hf h⟩)
  · by_cases hw : i.wellFormed = true
    · cases hc : faultOf i s with
      | none => exact .inl ⟨hf, hw, rfl, Host.Outcome.next.inj (h.symm.trans (exec_of_pass hw hf hc))⟩
      | some c => exact .inr (.inl ⟨hf, c, Host.Outcome.next.inj (h.symm.trans (exec_of_fault hw hf hc))⟩)
    · rw [exec_eq, if_neg hw, illegalCommand_of_unfaulted hf] at h
      exact .inr (.inl ⟨hf, _, (Host.Outcome.next.inj h).symm⟩)

/-- A transaction that takes a block that is not faulted to a faulted one has raised a fault: no body sets FAULTED
(R222). -/
theorem serveTransaction_raises {tr : Transaction} {s t : State} (hf : s.faulted = false)
    (h : serveTransaction tr s = .next t) (ht : t.faulted = true) : ∃ c, t = raiseFault c s := by
  cases hd : decode tr with
  | illegal why =>
    rw [serveTransaction_of_not_legal (by simp [hd]), illegalCommand_of_unfaulted hf] at h
    exact ⟨_, (Host.Outcome.next.inj h).symm⟩
  | legal i =>
    rw [serveTransaction_of_legal hd] at h
    obtain ⟨-, -, -, rfl⟩ | ⟨-, hraise⟩ | ⟨htrue, -⟩ := exec_outcome h
    · simp [bodyOf_faulted, hf] at ht
    · exact hraise
    · simp [hf] at htrue

/-- Settles O50: the transaction has raised a fault, and the causes have the codes 1 to 4 (R221). -/
theorem faultEntryHasNoOtherEffect : Obligations.FaultEntryHasNoOtherEffect := by
  intro tr s t hf h ht
  obtain ⟨c, rfl⟩ := serveTransaction_raises hf h ht
  obtain ⟨hlow, hhigh⟩ := faultCause_code_range c
  exact ⟨c.code, hlow, hhigh, rfl⟩

-- ======== the rejecting statuses ========

/-- The statuses of R230 that change no state at all. -/
def Status.rejects (st : Status) : Prop := st = .rearmRejected ∨ st = .configLocked ∨ st = .invalidConfiguration

/-- Everything a body can answer: a status that R230 does not name, a rejection that changes nothing, or RX_TIMEOUT,
which ends the receive (R89, R230). -/
theorem bodyOf_answers_cases (i : Instr) (s : State) (hw : i.wellFormed = true) :
    (∃ st data, (bodyOf i s).response = some ⟨st, data⟩ ∧ ¬ st.rejects ∧ st ≠ .rxTimeout) ∨
    (∃ st, st.rejects ∧ bodyOf i s = respond st 0 s) ∨
    bodyOf i s = respond .rxTimeout 0 { s with rxState := .idle } := by
  have hok : ¬ Status.ok.rejects ∧ Status.ok ≠ .rxTimeout := by simp [Status.rejects]
  cases i with
  | nop | query | classify | rxStart => exact .inl ⟨.ok, _, rfl, hok⟩
  | cfgWrite idx v =>
    obtain ⟨r, hr⟩ := Option.isSome_iff_exists.mp ((cfgRegOfIndex_isSome idx).trans hw)
    rw [bodyOf, hr, Option.elim_some, cfgWriteBody]
    split
    · exact .inr (.inl ⟨.configLocked, .inr (.inl rfl), rfl⟩)
    · exact .inl ⟨.ok, 0, rfl, hok⟩
  | cfgCommit =>
    rw [bodyOf, cfgCommitBody]
    split_ifs
    · exact .inr (.inl ⟨.configLocked, .inr (.inl rfl), rfl⟩)
    · exact .inl ⟨.ok, 0, rfl, hok⟩
    · exact .inr (.inl ⟨.invalidConfiguration, .inr (.inr rfl), rfl⟩)
  | arm packet =>
    rw [bodyOf, armBody]
    split
    · exact .inr (.inl ⟨.rearmRejected, .inl rfl, rfl⟩)
    · exact .inl ⟨.ok, 0, rfl, hok⟩
  | tick now =>
    obtain ⟨done, c, hr⟩ := tickBody_response now s
    exact .inl ⟨.ok, _, hr, hok⟩
  | rxCheck now =>
    rw [bodyOf]
    obtain ⟨-, h⟩ | ⟨-, -, h⟩ | ⟨-, -, h⟩ := rxCheckBody_cases now s <;> rw [h]
    · exact .inl ⟨.rxDoneOk, _, rfl, by simp [Status.rejects]⟩
    · exact .inr (.inr rfl)
    · exact .inl ⟨.rxContinue, 0, rfl, by simp [Status.rejects]⟩
  | rxPulse d now =>
    obtain ⟨data, hr⟩ := rxPulseBody_response d now s
    exact .inl ⟨.ok, data, hr, hok⟩

/-- Everything an operation can answer: the statuses of R230 come from a body alone, so from a block that is not faulted
and stays so. -/
theorem exec_answers_cases {i : Instr} {s t : State} (h : exec i s = .next t) :
    (∃ st data, t.response = some ⟨st, data⟩ ∧ ¬ st.rejects ∧ st ≠ .rxTimeout) ∨
    (s.faulted = false ∧ ∃ st, st.rejects ∧ t = respond st 0 s) ∨
    (s.faulted = false ∧ t = respond .rxTimeout 0 { s with rxState := .idle }) := by
  obtain ⟨hf, hw, -, rfl⟩ | ⟨-, c, rfl⟩ | ⟨-, carrier, st, data, rfl, rfl | rfl⟩ := exec_outcome h
  · obtain hother | hrejects | htimeout := bodyOf_answers_cases i s hw
    · exact .inl hother
    · exact .inr (.inl ⟨hf, hrejects⟩)
    · exact .inr (.inr ⟨hf, htimeout⟩)
  all_goals exact .inl ⟨_, _, rfl, by simp [Status.rejects]⟩

section
variable {i : Instr} {s t : State} {st : Status} {data : Word} (h : exec i s = .next t)
include h

/-- An operation that answers a rejection has its body's, which changes nothing (R230). -/
theorem exec_rejects (hst : st.rejects) (hr : t.response = some ⟨st, data⟩) :
    t.faulted = false ∧ t = { s with response := t.response } := by
  obtain ⟨st', data', hr', hnot, -⟩ | ⟨hf, st', -, rfl⟩ | ⟨-, rfl⟩ := exec_answers_cases h
  · rw [hr] at hr'
    cases hr'
    exact absurd hst hnot
  · exact ⟨hf, rfl⟩
  · cases hr
    simp [Status.rejects] at hst

/-- An operation that answers RX_TIMEOUT ends the receive and changes nothing else (R230). -/
theorem exec_timesOut (hr : t.response = some ⟨.rxTimeout, data⟩) :
    t.faulted = false ∧ t = { s with rxState := .idle, response := t.response } := by
  obtain ⟨st', data', hr', -, hnot⟩ | ⟨-, st', hst, rfl⟩ | ⟨hf, rfl⟩ := exec_answers_cases h
  · rw [hr] at hr'
    cases hr'
    exact absurd rfl hnot
  · cases hr
    simp [Status.rejects] at hst
  · exact ⟨hf, rfl⟩

end

/-- Settles O53: an operation that answers one of the four statuses has the next state of its rejection. -/
theorem rejectionsChangeNoState : Obligations.RejectionsChangeNoState := by
  refine fun i s t data h => ⟨?_, exec_timesOut h⟩
  rintro (hr | hr | hr)
  · exact exec_rejects h (.inl rfl) hr
  · exact exec_rejects h (.inr (.inl rfl)) hr
  · exact exec_rejects h (.inr (.inr rfl)) hr

-- ======== the receive loop ========

/-- CFG.WRITE's body leaves RX_STATE (R111). -/
theorem cfgWriteBody_rxState (r : CfgReg) (v : Word) (s : State) : (cfgWriteBody r v s).rxState = s.rxState := by
  unfold cfgWriteBody
  split
  · rfl
  · exact (congrArg State.rxState (writeCfg_frame r v s) :)

/-- CFG.COMMIT's body leaves RX_STATE (R112). -/
theorem cfgCommitBody_rxState (s : State) : (cfgCommitBody s).rxState = s.rxState := by
  unfold cfgCommitBody
  split_ifs <;> rfl

/-- ARM's body leaves RX_STATE (R181). -/
theorem armBody_rxState (packet : Word) (s : State) : (armBody packet s).rxState = s.rxState := by
  unfold armBody
  split <;> rfl

/-- TICK's body leaves RX_STATE (R182). -/
theorem tickBody_rxState (now : Word) (s : State) : (tickBody now s).rxState = s.rxState := by
  obtain ⟨-, h⟩ | ⟨-, -, h⟩ | ⟨-, -, -, h⟩ | ⟨-, -, -, -, h⟩ | ⟨-, -, -, -, h⟩ := tickBody_cases now s <;>
    rw [h] <;> rfl

/-- RX.CHECK's body ends the receive or waits for a pulse (R153). -/
theorem rxCheckBody_rxState (now : Word) (s : State) :
    (rxCheckBody now s).rxState = .wait ∨ (rxCheckBody now s).rxState = .idle := by
  obtain ⟨-, h⟩ | ⟨-, -, h⟩ | ⟨-, -, h⟩ := rxCheckBody_cases now s <;> rw [h]
  · exact .inr rfl
  · exact .inr rfl
  · exact .inl rfl

/-- RX.PULSE's body goes back to the head of the loop, whatever the symbol (R156). -/
theorem rxPulseBody_rxState (d now : Word) (s : State) : (rxPulseBody d now s).rxState = .head := by
  obtain ⟨-, h⟩ | ⟨-, h⟩ | ⟨-, h⟩ | ⟨-, -, h⟩ | ⟨-, -, h⟩ := rxPulseBody_cases d now s <;> rw [h] <;> rfl

/-- The operation and its RX_STATE before and after make one move of the receive loop (R150). -/
def LoopMove (i : Instr) (place next : RxState) : Prop :=
  (place = .idle ∧ next = .head ∧ ∃ a b, i = .rxStart a b) ∨
  (place = .head ∧ (next = .wait ∨ next = .idle) ∧ ∃ a, i = .rxCheck a) ∨
  (place = .wait ∧ next = .head ∧ ∃ a b, i = .rxPulse a b)

/-- A body that runs past the checks keeps RX_STATE or makes a move of the receive loop (R150, R228). -/
theorem bodyOf_rxState {i : Instr} {s : State} (hc : faultOf i s = none) :
    (bodyOf i s).rxState = s.rxState ∨ LoopMove i s.rxState (bodyOf i s).rxState := by
  obtain ⟨-, -, hseq⟩ := (faultOf_eq_none_iff i s).mp hc
  cases i with
  | nop | query | classify => exact .inl rfl
  | cfgWrite idx v =>
    rw [bodyOf]
    cases cfgRegOfIndex idx with
    | none => exact .inl rfl
    | some r => exact .inl (cfgWriteBody_rxState r v s)
  | cfgCommit => exact .inl (cfgCommitBody_rxState s)
  | arm packet => exact .inl (armBody_rxState packet s)
  | tick now => exact .inl (tickBody_rxState now s)
  | rxStart a b =>
    have hplace : s.rxState = .idle := by simpa [breaksRxSequence] using hseq
    exact .inr (.inl ⟨hplace, rfl, a, b, rfl⟩)
  | rxCheck a =>
    have hplace : s.rxState = .head := by simpa [breaksRxSequence] using hseq
    exact .inr (.inr (.inl ⟨hplace, rxCheckBody_rxState a s, a, rfl⟩))
  | rxPulse a b =>
    have hplace : s.rxState = .wait := by simpa [breaksRxSequence] using hseq
    exact .inr (.inr (.inr ⟨hplace, rxPulseBody_rxState a b s, a, b, rfl⟩))

/-- Settles O26: RX_STATE is written by bodies alone, which run in the order of the loop; out of that order check 5 of
R229 stops them. -/
theorem receiveStateMovesOnlyAlongTheLoop : Obligations.ReceiveStateMovesOnlyAlongTheLoop := by
  refine ⟨fun i s t h hmove => ?_, fun a b s hf hv => ⟨fun ha hr => ?_, fun hr => ?_, fun hr => ?_⟩⟩
  · obtain ⟨-, -, hc, rfl⟩ | ⟨-, c, rfl⟩ | ⟨-, carrier, st, data, rfl, -⟩ := exec_outcome h
    · exact (bodyOf_rxState hc).resolve_left hmove
    all_goals exact absurd rfl hmove
  · exact exec_of_fault rfl hf (faultOf_of_rxSequence (.rxStart a b) hv ha (decide_eq_true hr))
  · exact exec_of_fault rfl hf (faultOf_of_rxSequence (.rxCheck a) hv rfl (decide_eq_true hr))
  · exact exec_of_fault rfl hf (faultOf_of_rxSequence (.rxPulse a b) hv rfl (decide_eq_true hr))

end Sys2Proof.Machine
